-- ==== Sys2Proof/Word.lean ====
section
/-! DEFINITION. The words that cross the KL7240's ports: data words, check bytes, array words, management words. -/

namespace Sys2Proof

/-- A data word: 64 bits, byte k in bits 8k to 8k+7 (00, Conventions). -/
abbrev DataWord := BitVec 64

/-- A check byte: bit j holds check bit cj (R1). -/
abbrev CheckByte := BitVec 8

/-- A byte mask: bit k stands for byte k of a data word (R12, R139). -/
abbrev ByteMask := BitVec 8

/-- A word of the Management Port (00, Principal quantities). -/
abbrev MgmtWord := BitVec 32

/-- The 72 bits at one array location: a data word and its check byte, always accessed together (R1). -/
structure ArrayWord where
  data : DataWord
  check : CheckByte
  deriving DecidableEq, Repr, Inhabited

end Sys2Proof
end

