-- ==== Sys2Proof/Syntax.lean ====
section
/-! DEFINITION. The commands of the block: one constructor of Instr for each row of spec/opcode_table.json. -/

namespace Sys2Proof

/-- The blocks that offer records to the Error Log (07, Handling an offer). -/
inductive OfferSource where
  | sequencer | scrubber | migrationEngine | hostPort
  deriving DecidableEq, Repr

/-- Where a CE report comes from: a host beat or a scrub step (R77). -/
inductive ReportSource where
  | hostBeat | scrubStep
  deriving DecidableEq, Repr

/-- One step of the KL7240: a pin event, a host-channel event, an event at the array port, a hand-off between
blocks, a clock event, or a management frame event. -/
inductive Instr where
  /-- RESET_N is driven low (R58). midWrite: the running tenure was in the middle of an array write (log 5). -/
  | resetNLow (midWrite : Bool)
  /-- RESET_N rises with strap value a on AW2..AW0 and the PRESERVE strap (R16, R156). -/
  | resetNRise (a : Fin 8) (preserve : Bool)
  /-- A request arrives on the request channel (R140): HRQ_HDR and HRQ_B0 to HRQ_B3 (R182). -/
  | requestTaken (header : BitVec 32) (b0 b1 b2 b3 : BitVec 72)
  /-- The request held on the channel is taken (R140). -/
  | heldRequestTaken
  /-- The host takes the offered response (R148). -/
  | responseTaken
  /-- The arbiter makes a grant decision (R42). -/
  | grantDecision
  /-- The next beat of the host tenure is a read beat (R46). -/
  | hostReadBeat
  /-- The next beat of the host tenure is a write beat with mask FFh (R48). -/
  | hostWriteBeat
  /-- The next beat of the host tenure is a write beat with mask 01h to FEh (R49). -/
  | hostMergeBeat
  /-- The host tenure completes (R45). -/
  | hostTenureCompletion
  /-- The Error Log takes the oldest outstanding offer of a block (R122, log 8). -/
  | recordOffer (src : OfferSource)
  /-- The Watch List takes the oldest outstanding CE report of a source (R77, log 9). -/
  | ceReport (src : ReportSource)
  /-- The period count has reached TIMEBASE_DIV (R60). -/
  | microsecondTick
  /-- The interval timer expires (R64). -/
  | intervalExpiry
  /-- The scrub step reads and decodes its target (R69). -/
  | scrubDecode
  /-- The scrub step completes (R71). -/
  | scrubStepCompletion
  /-- The Migration Engine starts on the head of the Retirement Queue (R97). -/
  | migrationStart
  /-- A COPY_READ tenure completes (R99). -/
  | copyReadCompletion
  /-- A COPY_WRITE tenure completes (R101). -/
  | copyWriteCompletion
  /-- A VERIFY tenure completes (R102). -/
  | verifyCompletion
  /-- A fill tenure completes (R158). -/
  | fillWordCompletion
  /-- A PEEK tenure completes (R55). -/
  | peekCompletion
  /-- A POKE tenure completes (R56). -/
  | pokeCompletion
  /-- MAP L, S (R30). -/
  | map (l slot : MgmtWord)
  /-- UNMAP L (R31). -/
  | unmap (l : MgmtWord)
  /-- SLOT_FREE S (R32). -/
  | slotFree (slot : MgmtWord)
  /-- SLOT_BAD S (R32). -/
  | slotBad (slot : MgmtWord)
  /-- PEEK P (R54). -/
  | peek (p : MgmtWord)
  /-- POKE P (R54). -/
  | poke (p : MgmtWord)
  /-- SCRUB_SEEK P (R72). -/
  | scrubSeek (p : MgmtWord)
  /-- RETIRE L (R90). -/
  | retire (l : MgmtWord)
  /-- CLEAR_WATCH (R91). -/
  | clearWatch
  /-- CANCEL_MIGRATION (R109). -/
  | cancelMigration
  /-- POP_LOG (R132). -/
  | popLog
  /-- CLEAR_LOG (R133). -/
  | clearLog
  /-- CLEAR_SUMMARY (R134). -/
  | clearSummary
  /-- OPEN (R160). -/
  | openArray
  /-- CLOSE (R161). -/
  | closeArray
  /-- FILL (R162). -/
  | fillArray
  /-- SOFT_RESET (R164). -/
  | softReset
  /-- A complete COMMAND frame whose code names no command (R179). -/
  | unknownCommand (code : BitVec 8)
  /-- A complete SELECT frame: window code and index (R170). -/
  | select (window : BitVec 8) (index : BitVec 16)
  /-- A word of a READ frame starts (R171). -/
  | readWord
  /-- The 32nd bit of a word of a WRITE frame has arrived (R173). -/
  | writeWord (value : MgmtWord)
  /-- As writeWord, at the SCRUB_INTERVAL word (R63). -/
  | scrubIntervalWrite (value : MgmtWord)
  /-- As writeWord, at the TIMEBASE_DIV word (R61). -/
  | timebaseDivWrite (value : MgmtWord)
  /-- As writeWord, at the ALERT_MASK word (R130). -/
  | alertMaskWrite (value : MgmtWord)
  /-- A kind byte that names no frame kind is complete (R167). -/
  | unknownFrameKind (kind : BitVec 8)
  /-- SSN falls (R168). -/
  | frameStart
  /-- SSN rises on a READ, WRITE or incomplete frame (R168). -/
  | frameEnd
  /-- One period of the reference clock (R60). -/
  | referenceClockPeriod
  deriving DecidableEq, Repr

end Sys2Proof
end

