-- ==== Sys2Proof/Decode.lean ====
section
/-! DEFINITION. The words that spell commands by the bits of spec/opcode_table.json: there are none. -/

namespace Sys2Proof

/-- The command a table word spells. No row of spec/opcode_table.json gives bits ("fields" is empty in every row
and no row has "fixed"), so no word spells a command (log 24). -/
def decodeTableWord (_nbits _w : Nat) : Option Instr := none

end Sys2Proof
end

