-- ==== Sys2Proof/Config.lean ====
section
/-! DEFINITION. The fixed quantities of the part (00, Principal quantities) and the one value the manual leaves open. -/

namespace Sys2Proof.Config

/-- Places of the host request queue (R141). -/
def queuePlaces : Nat := 8

/-- Entries of the Watch List (R78). -/
def watchEntries : Nat := 8

/-- The largest count of a watch entry (R78). -/
def watchCountMax : Nat := 15

/-- Requests of the Retirement Queue (R83). -/
def retirePlaces : Nat := 4

/-- Records of the Error Log (R117). -/
def logRecords : Nat := 16

/-- The largest repeat count and the largest dropped count (R117, R126). -/
def countMax : Nat := 255

/-- The cap of the scrub credit (R64). -/
def creditMax : Nat := 4

/-- The credit from which a SCRUB claim is urgent (R42, R66). -/
def creditUrgent : Nat := 3

/-- The cap of the host streak and of a repair entry's moves count (R43, R22). -/
def streakMax : Nat := 15

/-- Restarts after which a good but dirty VERIFY pins the migration (R107). -/
def restartsMax : Nat := 3

/-- The content of a word whose write a hardware reset cut off: undefined (R58). The argument numbers the
occasions, so that two cut-offs need not leave the same word. Log 4. -/
opaque undefinedWord : Nat → ArrayWord

end Sys2Proof.Config
end

