-- ==== Sys2Proof/Machine/State.lean ====
section
/-! DEFINITION. The state of the KL7240, block by block, as plain data, and its value after reset. -/

namespace Sys2Proof.Machine

/-! ## Check Unit results (R5, R14) -/

/-- The form of an UNCORRECTABLE word (R5). -/
inductive UEForm where
  | double | multi
  deriving DecidableEq, Repr

/-- The class of an array word, with its form when UNCORRECTABLE (R5). -/
inductive WordClass where
  | clean | correctable | uncorrectable (form : UEForm)
  deriving DecidableEq, Repr

/-! ## Array and Translation Unit (02) -/

/-- One listed array word: its physical address and its 72 bits (log 3). -/
abbrev ArrayCell := Nat × ArrayWord

/-- The state of a spare slot (R19). -/
inductive SlotState where
  | free | reserved | inUse | bad
  deriving DecidableEq, Repr

/-- Who made a repair entry (R22). -/
inductive RepairOrigin where
  | loaded | migrated
  deriving DecidableEq, Repr

/-- A repair entry (R22). Its slot is the index at which the table holds it. -/
structure RepairEntry where
  logical : Nat
  origin : RepairOrigin
  moves : Nat
  deriving DecidableEq, Repr

/-- The Translation Unit: the size strap as sampled at the last hardware reset (R16), the repair table by slot
number (R22, R33) and the spare pool (R19). -/
structure TranslationUnit where
  sizeStrap : Fin 8
  table : Vector (Option RepairEntry) 64
  pool : Vector SlotState 64
  deriving DecidableEq, Repr

/-! ## Migration Engine (06) -/

/-- Who asked for a retirement (R83). -/
inductive RetireOrigin where
  | watch | command
  deriving DecidableEq, Repr

/-- A retirement request (R83). -/
structure RetireRequest where
  logical : Nat
  origin : RetireOrigin
  deriving DecidableEq, Repr

/-- The phase of a migration (R94). -/
inductive MigrationPhase where
  | copyRead | copyWrite | verify
  deriving DecidableEq, Repr

/-- The migration context (R94). -/
structure MigrationContext where
  logical : Nat
  source : Nat
  target : Fin 64
  phase : MigrationPhase
  buffer : Option DataWord
  dirty : Bool
  restarts : Nat
  pinned : Bool
  origin : RetireOrigin
  deriving DecidableEq, Repr

/-! ## Array Sequencer (03) -/

/-- The identity of the current tenure (R37). HOST: the queue place is the one in state IN_TENURE. MIGRATION: the
phase, the physical address it accesses, the buffer a COPY_WRITE stores as it stood at the grant (R101), and
whether the context it was granted for is still the active one (R38, log 20). SCRUB: the step is in the
Patrol Scrubber. POKE: the word as it stood at the grant (R56). FILL: the fill cursor value being written. -/
inductive Tenure where
  | none
  | host
  | migration (phase : MigrationPhase) (address : Nat) (buffer : DataWord) (live : Bool)
  | scrub
  | peek (address : Nat)
  | poke (address : Nat) (word : ArrayWord)
  | fill (address : Nat)
  deriving DecidableEq, Repr

/-- The Array Sequencer: current tenure and host streak (R37, R43). -/
structure Sequencer where
  tenure : Tenure
  streak : Nat
  deriving DecidableEq, Repr

/-! ## Patrol Scrubber (04) -/

/-- The step in progress: its target, whether its word has been decoded, and the mark that SCRUB_SEEK or
SOFT_RESET was taken during it (R71). -/
structure ScrubStep where
  target : Nat
  decoded : Bool
  cursorMoved : Bool
  deriving DecidableEq, Repr

/-- The Patrol Scrubber and its timebase (R60, R62, R64, R67, R71). timer is none while the interval timer is
stopped, else its elapsed count. -/
structure Scrubber where
  periodCount : Nat
  microseconds : BitVec 32
  timer : Option Nat
  credit : Nat
  cursor : Nat
  passes : BitVec 16
  step : Option ScrubStep
  deriving DecidableEq, Repr

/-! ## Watch List (05) -/

/-- The state of a watch entry (R79). -/
inductive WatchState where
  | counting | due | queued | migrating | stuck
  deriving DecidableEq, Repr

/-- A watch entry; its age is its place in the list (R78). -/
structure WatchEntry where
  physical : Nat
  count : Nat
  state : WatchState
  deriving DecidableEq, Repr

/-- A CE report that has been sent and not yet taken (R77, log 9). -/
structure CEReport where
  src : ReportSource
  physical : Nat
  deriving DecidableEq, Repr

/-! ## Error Log (07) -/

/-- What found a CE or UE: the four finders of each of the CE and UE kinds (R118). A COPY_READ's finding carries the
migration's logical address L, which is its record's logical field whenever the log takes it (R115, R119). -/
inductive Finder where
  | host | merge | scrub | migrate (logical : Nat)
  deriving DecidableEq, Repr

/-- The cause of a MIGRATION_ABANDONED record (R118). -/
inductive AbandonCause where
  | sourceUE | cancel | fill
  deriving DecidableEq, Repr

/-- The reason of a refused request (R142, R143). -/
inductive RefusalReason where
  | malformed | range
  deriving DecidableEq, Repr

/-- An offered record, with the fields its offer carries (R118, R119). -/
inductive Offer where
  | ce (finder : Finder) (physical bitPosition : Nat) (syndrome : BitVec 8)
  | ue (finder : Finder) (physical : Nat) (syndrome : BitVec 8)
  | spareFail (slot : Fin 64) (logical : Nat) (found : WordClass)
  | migrationDone (logical oldPhysical : Nat) (slot : Fin 64)
  | migrationAbandoned (logical : Nat) (cause : AbandonCause) (slot : Fin 64)
  | slotsExhausted (logical : Nat)
  | scrubOverrun
  | hostRefused (address : BitVec 24) (reason : RefusalReason) (tag : BitVec 4)
  deriving DecidableEq, Repr

/-- A record of the log (R117): the offer it was made from, and the logical field of a CE or UE kind, the answer at the
take (R119), none in every other kind. -/
structure LogRecord where
  seqNo : BitVec 16
  time : BitVec 32
  repeats : Nat
  offer : Offer
  owner : Option Nat
  deriving DecidableEq, Repr

/-- What the first-UE latch holds (R129). -/
structure FirstUE where
  finder : Finder
  physical : Nat
  owner : Option Nat
  deriving DecidableEq, Repr

/-- The Error Log (R117, R120, R126, R128, R129). The summary flags use the bit numbers of R185. -/
structure ErrorLog where
  records : List LogRecord
  nextSeq : BitVec 16
  dropped : Nat
  flags : BitVec 7
  firstUE : Option FirstUE
  deriving DecidableEq, Repr

/-! ## Host Port (08) -/

/-- A request as the host presents it: header and four beat positions (R182). -/
structure RawRequest where
  header : BitVec 32
  b0 : BitVec 72
  b1 : BitVec 72
  b2 : BitVec 72
  b3 : BitVec 72
  deriving DecidableEq, Repr

/-- READ or WRITE (R139). -/
inductive RequestKind where
  | read | write
  deriving DecidableEq, Repr

/-- The data word and mask of one WRITE beat (R139). -/
structure WriteBeat where
  mask : ByteMask
  data : DataWord
  deriving DecidableEq, Repr

/-- The fields of a request (R139, R182); beats is empty in a READ and in a request of length code 3. -/
structure Request where
  kind : RequestKind
  tag : BitVec 4
  address : BitVec 24
  lengthCode : BitVec 2
  beats : List WriteBeat
  deriving DecidableEq, Repr

/-- The state of a queue place (R141). -/
inductive PlaceState where
  | waiting | inTenure | done
  deriving DecidableEq, Repr

/-- The status of a beat (R147). -/
inductive BeatStatus where
  | clean | corrected | poisoned | written | merged | mergedCorrected | mergedPoisoned | skipped | refused
  deriving DecidableEq, Repr

/-- The result of a performed beat: its status and, for a READ, its data word (R141). -/
structure BeatResult where
  status : BeatStatus
  data : Option DataWord
  deriving DecidableEq, Repr

/-- A place of the request queue (R141). results lists the beats performed so far, beat 0 first. -/
structure Place where
  request : Request
  state : PlaceState
  refusal : Option RefusalReason
  results : List BeatResult
  deriving DecidableEq, Repr

/-! ## Lifecycle Controller (09) -/

/-- The state that follows FILLING (R155). -/
inductive FillReturn where
  | opened | hold
  deriving DecidableEq, Repr

/-- The state that follows DRAINING, with the fill return state that a target of FILLING carries (R155). -/
inductive DrainTarget where
  | hold | filling (back : FillReturn)
  deriving DecidableEq, Repr

/-- The lifecycle state, with the drain target and the fill return state where they are held (R155). -/
inductive Lifecycle where
  | filling (back : FillReturn)
  | hold
  | opened
  | draining (target : DrainTarget)
  deriving DecidableEq, Repr

/-! ## Management Port (10) -/

/-- What is known of the frame in progress: nothing yet, READ, WRITE, or a kind byte that named no kind. A SELECT or
COMMAND frame acts only at its end, as one row (R168, log 10). -/
inductive FrameKind where
  | fresh | read | write | unknown
  deriving DecidableEq, Repr

/-- The frame state: idle, or the kind and the number of bits received (R168). -/
inductive Frame where
  | idle
  | running (kind : FrameKind) (bits : Nat)
  deriving DecidableEq, Repr

/-- The windows (R169). -/
inductive Window where
  | none | config | status | migration | repair | slots | watch | retq | log | diag
  deriving DecidableEq, Repr

/-- The result codes a command can leave, with the value after hardware reset (R184). BUSY, code 2, is never
written (R179). -/
inductive CommandResult where
  | none | ok | state | range | mapped | unmapped | slotState | full | duplicate | inMigration | empty | unknown
  deriving DecidableEq, Repr

/-- A PEEK or POKE that has been taken and not yet granted (R39, R54). -/
inductive DiagClaim where
  | peek (p : Nat)
  | poke (p : Nat)
  deriving DecidableEq, Repr

/-- The config words (R175). -/
structure ConfigWords where
  ceThreshold : Nat
  scrubInterval : Nat
  readWriteback : Bool
  alertMask : BitVec 8
  timebaseDiv : Nat
  migrationFairness : Nat
  deriving DecidableEq, Repr

/-- The DIAG window (R176). -/
structure DiagWindow where
  data : DataWord
  check : CheckByte
  found : WordClass
  syndrome : BitVec 8
  deriving DecidableEq, Repr

/-- The Management Port's own state (10, introduction). -/
structure Mgmt where
  frame : Frame
  window : Window
  pointer : Nat
  holder : MgmtWord
  shiftPath : MgmtWord
  busy : Bool
  lastCode : BitVec 8
  lastResult : CommandResult
  lost : Bool
  accessError : Bool
  diag : DiagWindow
  diagClaim : Option DiagClaim
  deriving DecidableEq, Repr

/-- The input pins the block samples: RESET_N, SSN and the request channel (R138, R156, R168). -/
structure Pins where
  resetLow : Bool
  ssnLow : Bool
  presented : Option RawRequest
  deriving DecidableEq, Repr

/-! ## The whole machine -/

/-- The KL7240 with the array behind it. offers and reports are hand-offs under way (logs 8, 9); freeCount numbers the
free values read (log 4); pending is the queue of commands. -/
structure State where
  pins : Pins
  array : List ArrayCell
  tu : TranslationUnit
  seq : Sequencer
  scrub : Scrubber
  watch : List WatchEntry
  retq : List RetireRequest
  reports : List CEReport
  migration : Option MigrationContext
  log : ErrorLog
  offers : List Offer
  queue : List Place
  lifecycle : Lifecycle
  fillCursor : Nat
  mgmt : Mgmt
  config : ConfigWords
  freeCount : Nat
  pending : List Instr
  deriving DecidableEq, Repr

/-- Why the machine stops. -/
inductive Fault where
  /-- Raised by an array access at a physical address of W or more, where no memory device answers (R16). No state
  that a run from reset reaches makes such an access. Safe (log 19). -/
  | noSuchArrayWord
  deriving DecidableEq, Repr

/-- Why the model gives a command no meaning. -/
inductive Refusal where
  /-- Raised by an arm of exec whose command has no meaning yet; none has. Safe. -/
  | notModelled (mnemonic : String)
  deriving DecidableEq, Repr

/-- The outcome of a command. -/
abbrev Result := Host.Outcome State Fault Refusal

/-! ## Reset values -/

/-- The config words after hardware reset (R175). -/
def ConfigWords.reset : ConfigWords where
  ceThreshold := 3
  scrubInterval := 1000
  readWriteback := true
  alertMask := 0x49
  timebaseDiv := 100
  migrationFairness := 4

/-- The Translation Unit after hardware reset with strap value a (R34). -/
def TranslationUnit.reset (a : Fin 8) : TranslationUnit where
  sizeStrap := a
  table := Vector.replicate 64 none
  pool := Vector.replicate 64 .free

/-- The Array Sequencer after hardware reset (R58). -/
def Sequencer.reset : Sequencer := ⟨.none, 0⟩

/-- The Patrol Scrubber after hardware reset (R75): with PRESERVE at 1 the timer runs from 0. -/
def Scrubber.reset (preserve : Bool) : Scrubber where
  periodCount := 0
  microseconds := 0
  timer := if preserve then some 0 else none
  credit := 0
  cursor := 0
  passes := 0
  step := none

/-- The Error Log after either reset (R136, R137). -/
def ErrorLog.reset : ErrorLog := ⟨[], 0, 0, 0, none⟩

/-- The Management Port after hardware reset (R181). The shift path's value is the model's (log 17). -/
def Mgmt.reset : Mgmt where
  frame := .idle
  window := .none
  pointer := 0
  holder := 0
  shiftPath := 0
  busy := false
  lastCode := 0
  lastResult := .none
  lost := false
  accessError := false
  diag := ⟨0, 0, .clean, 0⟩
  diagClaim := none

/-- The machine just after RESET_N has risen, with strap value a and the PRESERVE strap, over an array with nothing
listed (R156, log 2): FILLING with return state OPEN, or HOLD. -/
def State.afterReset (a : Fin 8) (preserve : Bool) : State where
  pins := ⟨false, false, none⟩
  array := []
  tu := .reset a
  seq := .reset
  scrub := .reset preserve
  watch := []
  retq := []
  reports := []
  migration := none
  log := .reset
  offers := []
  queue := []
  lifecycle := if preserve then .hold else .filling .opened
  fillCursor := 0
  mgmt := .reset
  config := .reset
  freeCount := 0
  pending := []

/-- The machine right after reset: straps AW2..AW0 and PRESERVE at 0 (log 1). -/
def State.reset : State := State.afterReset 0 false

end Sys2Proof.Machine
end

