-- ==== Sys2Proof/Machine/ArrayMemory.lean ====
section
/-! DEFINITION. The array as a list of cells in one canonical form: addresses strictly rising, no cell equal to the word
an unlisted address reads as. -/

namespace Sys2Proof.Machine

/-- What an unlisted array address reads as: zero data with check byte 00h, the word a fill writes (R158). For a word
that nothing has written since power-on this is a DESIGN CHOICE, unsafe (log 2). -/
def unlistedWord : ArrayWord := ⟨0, 0⟩

/-- The array word at physical address p. -/
def arrayRead : List ArrayCell → Nat → ArrayWord
  | [], _ => unlistedWord
  | (q, w) :: rest, p => if q = p then w else arrayRead rest p

/-- The array with w stored at physical address p: the 72 bits of one location, together (R1). -/
def arrayWrite : List ArrayCell → Nat → ArrayWord → List ArrayCell
  | [], p, w => if w = unlistedWord then [] else [(p, w)]
  | (q, v) :: rest, p, w =>
    if p < q then
      if w = unlistedWord then (q, v) :: rest else (p, w) :: (q, v) :: rest
    else if p = q then
      if w = unlistedWord then rest else (p, w) :: rest
    else (q, v) :: arrayWrite rest p w

/-- Every address of the list lies above p. -/
def arrayAbove (p : Nat) (m : List ArrayCell) : Bool := m.all fun c => p < c.1

/-- The canonical form of the array. -/
def arrayWf : List ArrayCell → Bool
  | [] => true
  | (p, w) :: rest => w != unlistedWord && arrayAbove p rest && arrayWf rest

end Sys2Proof.Machine
end

