-- ==== Sys2Proof/Machine/CheckCode.lean ====
section
/-! DEFINITION. The Check Unit: encode, decode, correct, poison and merge (01, R1 to R15). -/

namespace Sys2Proof.Machine

/-- The codeword position of data bit i: the (i+1)-th position that is not a power of two (R2). -/
def position (i : Nat) : Nat :=
  if i = 0 then 3
  else if i ≤ 3 then i + 4
  else if i ≤ 10 then i + 5
  else if i ≤ 25 then i + 6
  else if i ≤ 56 then i + 7
  else i + 8

/-- The exclusive-OR of the positions of the set data bits among bits 0 to n-1. -/
def positionSum (d : DataWord) : Nat → BitVec 7
  | 0 => 0
  | n + 1 => positionSum d n ^^^ (if d.getLsbD n then BitVec.ofNat 7 (position n) else 0)

/-- Check bits c0 to c6 (R3): bit j of the sum of the set bits' positions is the exclusive-OR of the data bits whose
position has bit j set. -/
def checkBits (d : DataWord) : BitVec 7 := positionSum d 64

/-- The exclusive-OR of bits 0 to n-1 of a word. -/
def parityUpTo {w : Nat} (v : BitVec w) : Nat → Bool
  | 0 => false
  | n + 1 => parityUpTo v n ^^ v.getLsbD n

/-- The exclusive-OR of all bits of a word. -/
def parity {w : Nat} (v : BitVec w) : Bool := parityUpTo v w

/-- The correct check byte of a data word (R3): c0 to c6, and c7 covering them and the data. -/
def encode (d : DataWord) : CheckByte :=
  BitVec.ofBool (parity d ^^ parity (checkBits d)) ++ checkBits d

/-- The array word a write stores: a data word with its correct check byte (R3, R8). -/
def encodeWord (d : DataWord) : ArrayWord := ⟨d, encode d⟩

/-- The poison check byte of a data word: its correct check byte with c0 and c1 inverted (R10). -/
def poison (d : DataWord) : CheckByte := encode d ^^^ 0x03

/-- The syndrome of an array word: p in bit 7 and s in bits 0 to 6 (R4). -/
def syndrome (w : ArrayWord) : BitVec 8 :=
  BitVec.ofBool (parity w.data ^^ parity w.check) ++ (checkBits w.data ^^^ w.check.setWidth 7)

/-- The class of a syndrome, with the form when UNCORRECTABLE (R5). -/
def classOf (syn : BitVec 8) : WordClass :=
  let s := syn.toNat % 128
  if syn.toNat < 128 then
    if s = 0 then .clean else .uncorrectable .double
  else if s ≤ 71 then .correctable else .uncorrectable .multi

/-- The bit that s names in a CORRECTABLE word: 0 to 63 a data bit, 64 + j check bit cj, 71 c7 (R6). -/
def namedBit (s : Nat) : Nat :=
  if s = 0 then 71
  else if s = 1 then 64
  else if s = 2 then 65
  else if s = 3 then 0
  else if s = 4 then 66
  else if s ≤ 7 then s - 4
  else if s = 8 then 67
  else if s ≤ 15 then s - 5
  else if s = 16 then 68
  else if s ≤ 31 then s - 6
  else if s = 32 then 69
  else if s ≤ 63 then s - 7
  else if s = 64 then 70
  else s - 8

/-- The reported bit position: present for a CORRECTABLE word only (R6). -/
def reportedBit (syn : BitVec 8) : Option Nat :=
  match classOf syn with
  | .correctable => some (namedBit (syn.toNat % 128))
  | .clean | .uncorrectable _ => none

/-- A data word with data bit i inverted. -/
def flipBit (d : DataWord) (i : Nat) : DataWord := d ^^^ BitVec.twoPow 64 i

/-- The result of a decode (R14); the stored bits are the word decoded. -/
structure Decoded where
  found : WordClass
  syndrome : BitVec 8
  bitPosition : Option Nat
  output : DataWord
  stored : ArrayWord
  deriving DecidableEq, Repr

/-- Decodes an array word (R4 to R7, R9, R11): the data output is the stored data with the reported data bit, if one
is reported, inverted. -/
def decode (w : ArrayWord) : Decoded where
  found := classOf (syndrome w)
  syndrome := syndrome w
  bitPosition := reportedBit (syndrome w)
  output :=
    match reportedBit (syndrome w) with
    | some b => if b < 64 then flipBit w.data b else w.data
    | none => w.data
  stored := w

/-- Byte k of a data word. -/
def byteOf (d : DataWord) (k : Nat) : BitVec 8 := d.extractLsb' (8 * k) 8

/-- Byte k of a merged word (R12). -/
def mergedByte (old new : DataWord) (mask : ByteMask) (k : Nat) : BitVec 8 :=
  if mask.getLsbD k then byteOf new k else byteOf old k

/-- The merge of a beat into an old data word under the byte mask (R12). -/
def merge (old new : DataWord) (mask : ByteMask) : DataWord :=
  mergedByte old new mask 7 ++ mergedByte old new mask 6 ++ mergedByte old new mask 5
    ++ mergedByte old new mask 4 ++ mergedByte old new mask 3 ++ mergedByte old new mask 2
    ++ mergedByte old new mask 1 ++ mergedByte old new mask 0

/-- The array word a merge writes back: the merged word with its correct check byte, or with its poison check byte when
the old word was UNCORRECTABLE (R13). -/
def mergedWord (old : Decoded) (new : DataWord) (mask : ByteMask) : ArrayWord :=
  let d := merge old.output new mask
  match old.found with
  | .clean | .correctable => encodeWord d
  | .uncorrectable _ => ⟨d, poison d⟩

end Sys2Proof.Machine
end

