-- ==== Sys2Proof/Machine/Flags.lean ====
section
/-! DEFINITION. Record kinds and classes, the summary flags and the ALERT line (R118, R123, R128, R131, R186). -/

namespace Sys2Proof.Machine

/-- The kind code of a CE record by its finder (R186). -/
def Finder.ceCode : Finder → Nat
  | .host => 1
  | .merge => 2
  | .scrub => 3
  | .migrate _ => 4

/-- The kind code of a UE record by its finder (R186). -/
def Finder.ueCode (f : Finder) : Nat := f.ceCode + 4

/-- The kind code of a record (R186). -/
def Offer.kindCode : Offer → Nat
  | .ce f _ _ _ => f.ceCode
  | .ue f _ _ => f.ueCode
  | .spareFail _ _ _ => 9
  | .migrationDone _ _ _ => 10
  | .migrationAbandoned _ _ _ => 11
  | .slotsExhausted _ => 12
  | .scrubOverrun => 13
  | .hostRefused _ _ _ => 14

/-- SEVERE or NOTICE, which follows from the kind (R118). -/
def Offer.severe : Offer → Bool
  | .ue _ _ _ | .migrationAbandoned _ _ _ | .slotsExhausted _ => true
  | .ce _ _ _ _ | .spareFail _ _ _ | .migrationDone _ _ _ | .scrubOverrun | .hostRefused _ _ _ => false

/-- The block that offers a record (R118). -/
def Finder.block : Finder → OfferSource
  | .host | .merge => .sequencer
  | .scrub => .scrubber
  | .migrate _ => .migrationEngine

/-- The block that offers a record (R118). -/
def Offer.source : Offer → OfferSource
  | .ce f _ _ _ | .ue f _ _ => f.block
  | .spareFail _ _ _ | .migrationDone _ _ _ | .migrationAbandoned _ _ _ | .slotsExhausted _ => .migrationEngine
  | .scrubOverrun => .scrubber
  | .hostRefused _ _ _ => .hostPort

/-- The logical address a finding carries: the migration's L in CE_MIGRATE and UE_MIGRATE (R115). -/
def Finder.carried : Finder → Option Nat
  | .migrate l => some l
  | .host | .merge | .scrub => none

/-- The logical address that a CE or UE offer carries (R115, R119). -/
def Offer.carried : Offer → Option Nat
  | .ce f _ _ _ | .ue f _ _ => f.carried
  | .spareFail _ _ _ | .migrationDone _ _ _ | .migrationAbandoned _ _ _ | .slotsExhausted _ | .scrubOverrun
  | .hostRefused _ _ _ => none

/-- The physical address whose reverse lookup fills the logical field: that of the eight CE and UE kinds (R119). -/
def Offer.lookupAddress : Offer → Option Nat
  | .ce _ p _ _ | .ue _ p _ => some p
  | .spareFail _ _ _ | .migrationDone _ _ _ | .migrationAbandoned _ _ _ | .slotsExhausted _ | .scrubOverrun
  | .hostRefused _ _ _ => none

/-- The address key of a kind, with H for the slot's address (R123). -/
def Offer.addressKey (h : Nat) : Offer → Option Nat
  | .ce _ p _ _ | .ue _ p _ => some p
  | .spareFail slot _ _ => some (h + slot.val)
  | .migrationDone _ old _ => some old
  | .migrationAbandoned _ _ _ | .slotsExhausted _ | .scrubOverrun | .hostRefused _ _ _ => none

/-- The bit position compared by the merge test: that of the four CE kinds (R123). -/
def Offer.mergeBit : Offer → Option Nat
  | .ce _ _ b _ => some b
  | .ue _ _ _ | .spareFail _ _ _ | .migrationDone _ _ _ | .migrationAbandoned _ _ _ | .slotsExhausted _
  | .scrubOverrun | .hostRefused _ _ _ => none

/-- Whether an offer merges into a record made from another offer (R123): same kind, same address key or both none,
and for the CE kinds the same bit position. -/
def Offer.mergesInto (h : Nat) (offer newest : Offer) : Bool :=
  offer.kindCode = newest.kindCode && offer.addressKey h = newest.addressKey h
    && offer.mergeBit = newest.mergeBit

/-- Bit numbers of the summary flags (R185). -/
def flagUESeen : Nat := 0
def flagCESeen : Nat := 1
def flagSpareFailed : Nat := 2
def flagExhausted : Nat := 3
def flagOverrun : Nat := 4
def flagRefused : Nat := 5
def flagDropped : Nat := 6

/-- Bit number of the mask-only member LOG (R185). -/
def maskLog : Nat := 7

/-- The summary flag an offer sets, whatever becomes of it; MIGRATION_DONE and MIGRATION_ABANDONED set none (R128). -/
def Offer.flag : Offer → Option Nat
  | .ue _ _ _ => some flagUESeen
  | .ce _ _ _ _ => some flagCESeen
  | .spareFail _ _ _ => some flagSpareFailed
  | .slotsExhausted _ => some flagExhausted
  | .scrubOverrun => some flagOverrun
  | .hostRefused _ _ _ => some flagRefused
  | .migrationDone _ _ _ | .migrationAbandoned _ _ _ => none

/-- The summary with flag j set. -/
def setFlag (flags : BitVec 7) (j : Nat) : BitVec 7 := flags ||| BitVec.twoPow 7 j

/-- The summary with an optional flag set. -/
def setFlag? (flags : BitVec 7) : Option Nat → BitVec 7
  | some j => setFlag flags j
  | none => flags

/-- The ALERT line (R131): a set flag whose member is in the mask, or a record in the log with LOG in the mask.
Deasserted while RESET_N is low (R136). -/
def State.alert (s : State) : Bool :=
  !s.pins.resetLow &&
    (s.log.flags &&& s.config.alertMask.setWidth 7 != 0
      || (s.config.alertMask.getLsbD maskLog && 1 ≤ s.log.records.length))

end Sys2Proof.Machine
end

