-- ==== Sys2Proof/Machine/Codes.lean ====
section
/-! DEFINITION. The codes of management frames and commands, and the row that a frame's bytes spell (R167, R178, R184). -/

namespace Sys2Proof.Machine

/-- Command codes (R184). -/
def codeMap : BitVec 8 := 0x20
def codeUnmap : BitVec 8 := 0x21
def codeSlotFree : BitVec 8 := 0x22
def codeSlotBad : BitVec 8 := 0x23
def codePeek : BitVec 8 := 0x30
def codePoke : BitVec 8 := 0x31
def codeScrubSeek : BitVec 8 := 0x38
def codeRetire : BitVec 8 := 0x40
def codeClearWatch : BitVec 8 := 0x41
def codeCancelMigration : BitVec 8 := 0x48
def codePopLog : BitVec 8 := 0x50
def codeClearLog : BitVec 8 := 0x51
def codeClearSummary : BitVec 8 := 0x52
def codeOpen : BitVec 8 := 0x60
def codeClose : BitVec 8 := 0x61
def codeFill : BitVec 8 := 0x62
def codeSoftReset : BitVec 8 := 0x6F

/-- Every code of the command table; any other code, 00h included, is unknown (R184). -/
def commandCodes : List (BitVec 8) :=
  [codeMap, codeUnmap, codeSlotFree, codeSlotBad, codePeek, codePoke, codeScrubSeek, codeRetire,
   codeClearWatch, codeCancelMigration, codePopLog, codeClearLog, codeClearSummary, codeOpen,
   codeClose, codeFill, codeSoftReset]

/-- The kinds of a management frame (R167). -/
inductive FrameName where
  | select | read | write | command
  deriving DecidableEq, Repr

/-- The kind that a frame's first byte names: 01h to 04h; any other byte names none (R184). -/
def frameName (kind : BitVec 8) : Option FrameName :=
  match kind.toNat with
  | 1 => some .select
  | 2 => some .read
  | 3 => some .write
  | 4 => some .command
  | _ => none

/-- The byte names a frame kind. -/
def frameKindKnown (kind : BitVec 8) : Bool := (frameName kind).isSome

/-- The row that a command code names, by the argument words it takes: none, one or two (R178, R184). -/
inductive CommandForm where
  | bare (row : Instr)
  | one (row : MgmtWord → Instr)
  | two (row : MgmtWord → MgmtWord → Instr)

/-- The command that a code names (R184); none for an unknown code. -/
def commandForm (code : BitVec 8) : Option CommandForm :=
  if code = codeMap then some (.two .map)
  else if code = codeUnmap then some (.one .unmap)
  else if code = codeSlotFree then some (.one .slotFree)
  else if code = codeSlotBad then some (.one .slotBad)
  else if code = codePeek then some (.one .peek)
  else if code = codePoke then some (.one .poke)
  else if code = codeScrubSeek then some (.one .scrubSeek)
  else if code = codeRetire then some (.one .retire)
  else if code = codeClearWatch then some (.bare .clearWatch)
  else if code = codeCancelMigration then some (.bare .cancelMigration)
  else if code = codePopLog then some (.bare .popLog)
  else if code = codeClearLog then some (.bare .clearLog)
  else if code = codeClearSummary then some (.bare .clearSummary)
  else if code = codeOpen then some (.bare .openArray)
  else if code = codeClose then some (.bare .closeArray)
  else if code = codeFill then some (.bare .fillArray)
  else if code = codeSoftReset then some (.bare .softReset)
  else none

/-- The words that a run of bytes carries, each most significant byte first; a last word cut short is discarded (R167,
R173, R178). -/
def wordsOf : List (BitVec 8) → List MgmtWord
  | b3 :: b2 :: b1 :: b0 :: rest => (b3 ++ b2 ++ b1 ++ b0) :: wordsOf rest
  | _ => []

/-- The row of a command code with the argument words received: none while an argument is missing, further words
ignored; a code that names no command takes no argument (R178). -/
def commandRow (code : BitVec 8) (arguments : List MgmtWord) : Option Instr :=
  match commandForm code, arguments with
  | none, _ => some (.unknownCommand code)
  | some (.bare row), _ => some row
  | some (.one row), a :: _ => some (row a)
  | some (.two row), a :: b :: _ => some (row a b)
  | some (.one _), [] | some (.two _), [] | some (.two _), [_] => none

/-- The row that the whole bytes of a frame spell at its end: a SELECT of 4 bytes, a COMMAND of 2 bytes and 4 for each
argument word, further bytes ignored; or the row of a kind byte that names no kind (R167, R170, R178, R184). None for
an incomplete frame, and for READ and WRITE, which act word by word: a WRITE by wordsOf the bytes after its kind. -/
def frameRow : List (BitVec 8) → Option Instr
  | [] => none
  | kind :: bytes =>
    match frameName kind with
    | none => some (.unknownFrameKind kind)
    | some .select =>
      match bytes with
      | window :: high :: low :: _ => some (.select window (high ++ low))
      | _ => none
    | some .command =>
      match bytes with
      | code :: rest => commandRow code (wordsOf rest)
      | [] => none
    | some .read | some .write => none

end Sys2Proof.Machine
end

