-- ==== Sys2Proof/Machine/Operands.lean ====
section
/-! DEFINITION. The layouts of requests and responses on the host port (R139, R182, R183). -/

namespace Sys2Proof.Machine

/-- The number of beats a length code names; code 3 is malformed and has one beat for its response (R182). -/
def beatsOfLength (code : BitVec 2) : Nat :=
  match code.toNat with
  | 0 => 1
  | 1 => 2
  | 2 => 4
  | _ => 1

/-- One WRITE beat position: mask in bits 71 to 64, data word in bits 63 to 0 (R182). -/
def writeBeatOf (b : BitVec 72) : WriteBeat := ⟨b.extractLsb' 64 8, b.extractLsb' 0 64⟩

/-- The kind in header bit 31 (R182). -/
def headerKind (h : BitVec 32) : RequestKind := if h.getLsbD 31 then .write else .read

/-- The length code in header bits 26 to 25 (R182). -/
def headerLength (h : BitVec 32) : BitVec 2 := h.extractLsb' 25 2

/-- Decodes a request at its take, from the header and, for a WRITE of sound length code, from as many beat positions
as the code names (R182). -/
def decodeRequest (r : RawRequest) : Request where
  kind := headerKind r.header
  tag := r.header.extractLsb' 27 4
  address := r.header.extractLsb' 0 24
  lengthCode := headerLength r.header
  beats :=
    match headerKind r.header with
    | .read => []
    | .write =>
      if headerLength r.header = 3 then []
      else ([r.b0, r.b1, r.b2, r.b3].take (beatsOfLength (headerLength r.header))).map writeBeatOf

/-- The number of beats of a request (R139, R182). -/
def Request.beatCount (r : Request) : Nat := beatsOfLength r.lengthCode

/-- The logical address of beat i (R139). -/
def Request.beatAddress (r : Request) (i : Nat) : Nat := r.address.toNat + i

/-- MALFORMED (R142): the length does not decode, or the address is not a multiple of the length. -/
def Request.malformed (r : Request) : Bool :=
  r.lengthCode = 3 || r.address.toNat % r.beatCount ≠ 0

/-- The check at take (R142, R143): MALFORMED first, then RANGE when some beat is at H or beyond. -/
def Request.refusal (r : Request) (h : Nat) : Option RefusalReason :=
  if r.malformed then some .malformed
  else if h ≤ r.address.toNat + r.beatCount - 1 then some .range
  else none

/-- Whether any beat of the request names logical address l (R41). -/
def Request.names (r : Request) (l : Nat) : Bool :=
  r.address.toNat ≤ l && l < r.address.toNat + r.beatCount

/-- The code of a beat status (R183). -/
def BeatStatus.code : BeatStatus → BitVec 4
  | .clean => 0
  | .corrected => 1
  | .poisoned => 2
  | .written => 3
  | .merged => 4
  | .mergedCorrected => 5
  | .mergedPoisoned => 6
  | .skipped => 7
  | .refused => 8

/-- The refusal code of a response header: 0 none, 1 MALFORMED, 2 RANGE (R183). -/
def refusalCode : Option RefusalReason → BitVec 2
  | none => 0
  | some .malformed => 1
  | some .range => 2

/-- The kind bit of a header (R182). -/
def kindBit : RequestKind → BitVec 1
  | .read => 0
  | .write => 1

/-- A response as it is driven: header and four beat positions (R183). -/
structure Response where
  header : BitVec 32
  b0 : BitVec 68
  b1 : BitVec 68
  b2 : BitVec 68
  b3 : BitVec 68
  deriving DecidableEq, Repr

/-- Beat position i of a response: status in bits 67 to 64 and data word in bits 63 to 0; zero beyond the response's
beats (R183). -/
def responseBeat (results : List BeatResult) (i : Nat) : BitVec 68 :=
  match results[i]? with
  | some r => r.status.code ++ r.data.getD 0
  | none => 0

/-- The response of a place (R148, R183): kind in bit 31, tag in 30 to 27, length code in 26 to 25, refusal in 24 to
23. -/
def Place.response (p : Place) : Response where
  header :=
    kindBit p.request.kind ++ p.request.tag ++ p.request.lengthCode ++ refusalCode p.refusal ++ (0 : BitVec 23)
  b0 := responseBeat p.results 0
  b1 := responseBeat p.results 1
  b2 := responseBeat p.results 2
  b3 := responseBeat p.results 3

end Sys2Proof.Machine
end

