-- ==== Sys2Proof/Machine/Ops.lean ====
section
/-! DEFINITION. The named operations that the meanings share, block by block. -/

namespace Sys2Proof.Machine

/-! ## Geometry (R16, R17) -/

/-- The array size W (R16). -/
def State.W (s : State) : Nat := 2 ^ (17 + s.tu.sizeStrap.val)

/-- The host limit H (R17). -/
def State.H (s : State) : Nat := s.W - 64

/-- The physical address of slot k (R17). -/
def State.slotAddress (s : State) (k : Fin 64) : Nat := s.H + k.val

/-- The slot at physical address p, if p lies in the spare region (R17). -/
def State.slotAt (s : State) (p : Nat) : Option (Fin 64) :=
  if h : s.H ≤ p ∧ p - s.H < 64 then some ⟨p - s.H, h.2⟩ else none

/-! ## The array port -/

/-- An access at physical address p: the part assumes a device at 0 to W-1 only (R16, log 19). -/
def atArray (s : State) (p : Nat) (r : Result) : Result :=
  if p < s.W then r else .fault .noSuchArrayWord

/-- s with array word w stored at p (R1). -/
def State.store (s : State) (p : Nat) (w : ArrayWord) : State := { s with array := arrayWrite s.array p w }

/-- The decode of the word at p (R4 to R7). -/
def State.decodeAt (s : State) (p : Nat) : Decoded := decode (arrayRead s.array p)

/-! ## Translation Unit (02) -/

/-- Whether slot k is named by an entry for logical address l. -/
def State.entryNames (s : State) (l : Nat) (k : Fin 64) : Bool :=
  match s.tu.table[k] with
  | some e => e.logical = l
  | none => false

/-- The slot that l's repair entry names, if l has an entry (R22). -/
def State.mappedSlot (s : State) (l : Nat) : Option (Fin 64) :=
  (List.finRange 64).find? (s.entryNames l)

/-- The forward lookup of l (R25). -/
def State.forward (s : State) (l : Nat) : Nat :=
  match s.mappedSlot l with
  | some k => s.slotAddress k
  | none => l

/-- The kinds of physical address (R18). -/
inductive WordKind where
  | home | retired | slotInUse (k : Fin 64) | idleSlot (k : Fin 64)
  deriving DecidableEq, Repr

/-- The kind of a physical address, which the table and the pool decide (R18); none beyond W-1. -/
def State.kindAt (s : State) (p : Nat) : Option WordKind :=
  if p < s.H then
    some (if (s.mappedSlot p).isSome then .retired else .home)
  else
    (s.slotAt p).map fun k => if s.tu.pool[k] = .inUse then .slotInUse k else .idleSlot k

/-- The reverse lookup of p (R27): the logical owner, or none for "no logical owner". -/
def State.owner (s : State) (p : Nat) : Option Nat :=
  match s.kindAt p with
  | some .home => some p
  | some (.slotInUse k) => (s.tu.table[k]).map (·.logical)
  | some .retired | some (.idleSlot _) | none => none

/-- Whether slot k is FREE. -/
def State.slotIsFree (s : State) (k : Fin 64) : Bool := s.tu.pool[k] = .free

/-- Allocation (R20): the lowest-numbered FREE slot. -/
def State.lowestFree (s : State) : Option (Fin 64) := (List.finRange 64).find? s.slotIsFree

/-- The free slot count (R20). -/
def State.freeSlots (s : State) : Nat := ((List.finRange 64).filter s.slotIsFree).length

/-- s with slot k in state st. -/
def State.setSlot (s : State) (k : Fin 64) (st : SlotState) : State :=
  { s with tu := { s.tu with pool := s.tu.pool.set k st } }

/-- s with the table's entry for slot k replaced. -/
def State.setEntry (s : State) (k : Fin 64) (e : Option RepairEntry) : State :=
  { s with tu := { s.tu with table := s.tu.table.set k e } }

/-! ## Watch List and Retirement Queue (05) -/

/-- The watch entry for physical address p (R78). -/
def State.watchEntry (s : State) (p : Nat) : Option WatchEntry := s.watch.find? (·.physical = p)

/-- s with the entry for p, if there is one, in state st; count and age kept. -/
def State.setWatch (s : State) (p : Nat) (st : WatchState) : State :=
  { s with watch := s.watch.map fun e => if e.physical = p then { e with state := st } else e }

/-- s without the entry for p. -/
def State.dropWatch (s : State) (p : Nat) : State :=
  { s with watch := s.watch.filter (·.physical ≠ p) }

/-- Whether l is the logical address of the active migration. -/
def State.migrating (s : State) (l : Nat) : Bool :=
  match s.migration with
  | some c => c.logical = l
  | none => false

/-- Whether l is held in the Retirement Queue (R83). -/
def State.queuedForRetirement (s : State) (l : Nat) : Bool := s.retq.any (·.logical = l)

/-- The threshold test on a count (R82). -/
def State.passesThreshold (s : State) (count : Nat) : Bool :=
  s.config.ceThreshold ≠ 0 && s.config.ceThreshold ≤ count

/-- The offer of the DUE entry for p to the Retirement Queue (R84). An entry without an owner, which no reachable state
holds (R78), stays as it is (log 21). -/
def State.offerDue (s : State) (p : Nat) : State :=
  match s.owner p with
  | none => s
  | some l =>
    if s.migrating l then s.setWatch p .migrating
    else if s.queuedForRetirement l then s.setWatch p .queued
    else if s.retq.length < Config.retirePlaces then
      { s.setWatch p .queued with retq := s.retq ++ [⟨l, .watch⟩] }
    else s

/-- The threshold test on the COUNTING entry for p; an entry that passes becomes DUE and is offered at once (R80,
R81, R88). -/
def State.testThreshold (s : State) (p : Nat) : State :=
  match s.watchEntry p with
  | none => s
  | some e =>
    if e.state = .counting && s.passesThreshold e.count then (s.setWatch p .due).offerDue p else s

/-- The offers at the removal of the queue's head (R85): DUE entries, oldest first, until the queue is full. -/
def State.offerDueEntries (s : State) : State :=
  (s.watch.filter (·.state = .due)).foldl
    (fun t e => if t.retq.length < Config.retirePlaces then t.offerDue e.physical else t) s

/-- The release of STUCK entries at the notice that a slot has become FREE (R24, R88): all become COUNTING, and each is
tested, oldest first. -/
def State.releaseStuck (s : State) : State :=
  ((s.watch.filter (·.state = .stuck)).map (·.physical)).foldl State.testThreshold
    { s with watch := s.watch.map fun e => if e.state = .stuck then { e with state := .counting } else e }

/-- A slot's transition to FREE, with its notice to the Watch List (R24). -/
def State.freeSlot (s : State) (k : Fin 64) : State := (s.setSlot k .free).releaseStuck

/-- The entry that eviction removes: the COUNTING entry with the lowest count, the oldest among equals (R81). -/
def evictee (entries : List WatchEntry) : Option WatchEntry :=
  entries.foldl
    (fun best e =>
      if e.state ≠ .counting then best
      else
        match best with
        | none => some e
        | some b => if e.count < b.count then some e else some b)
    none

/-- A report for an address with no entry (R81): insertion last in age order, after an eviction when the list is full,
and the threshold test; with nothing to evict the report is not watched. -/
def State.insertWatch (s : State) (p : Nat) : State :=
  if s.watch.length < Config.watchEntries then
    ({ s with watch := s.watch ++ [⟨p, 1, .counting⟩] } : State).testThreshold p
  else
    match evictee s.watch with
    | none => s
    | some v =>
      ({ s with watch := s.watch.filter (·.physical ≠ v.physical) ++ [⟨p, 1, .counting⟩] } : State).testThreshold p

/-- A report for an address with an entry (R80): the count rises, saturating at 15, and a COUNTING entry is tested. -/
def State.countWatch (s : State) (p : Nat) : State :=
  ({ s with
    watch := s.watch.map fun e =>
      if e.physical = p then { e with count := min (e.count + 1) Config.watchCountMax } else e } : State).testThreshold p

/-- The take of a CE report for p (R77): dropped without an owner, else counted or inserted. -/
def State.takeReport (s : State) (p : Nat) : State :=
  match s.owner p with
  | none => s
  | some _ =>
    match s.watchEntry p with
    | some _ => s.countWatch p
    | none => s.insertWatch p

/-! ## Hand-offs (logs 8, 9) -/

/-- s with a record offered to the Error Log. -/
def State.offer (s : State) (o : Offer) : State := { s with offers := s.offers ++ [o] }

/-- s with a CE report sent to the Watch List. -/
def State.report (s : State) (src : ReportSource) (p : Nat) : State :=
  { s with reports := s.reports ++ [⟨src, p⟩] }

/-! ## Error Log (07) -/

/-- The logical address of a CE or UE offer at its take (R119): for CE_MIGRATE and UE_MIGRATE the migration's L, whatever
has become of the table since the offer (R115), for the other six kinds the reverse lookup of P. -/
def State.offerLogical (s : State) (o : Offer) : Option Nat :=
  match o.carried with
  | some l => some l
  | none => o.lookupAddress.bind s.owner

/-- The record an accepted offer becomes (R119, R120, R121, R124). -/
def State.newRecord (s : State) (o : Offer) : LogRecord where
  seqNo := s.log.nextSeq
  time := s.scrub.microseconds
  repeats := 1
  offer := o
  owner := s.offerLogical o

/-- The records with the newest one's repeat count increased, saturating at 255 (R123). -/
def bumpNewest : List LogRecord → List LogRecord
  | [] => []
  | [r] => [{ r with repeats := min (r.repeats + 1) Config.countMax }]
  | r :: rest => r :: bumpNewest rest

/-- The records without the oldest NOTICE record (R125). -/
def dropOldestNotice : List LogRecord → List LogRecord
  | [] => []
  | r :: rest => if r.offer.severe then r :: dropOldestNotice rest else rest

/-- The first-UE latch after an offer (R129): filled by a UE offer when clear. -/
def State.latchAfter (s : State) (o : Offer) : Option FirstUE :=
  match s.log.firstUE, o with
  | none, .ue f p _ => some ⟨f, p, s.offerLogical o⟩
  | latch, _ => latch

/-- What becomes of an offer (R122). -/
inductive OfferOutcome where
  | merged | appended | displaced | dropped
  deriving DecidableEq, Repr

/-- The four tests on an offer, in order (R122, R123). -/
def State.offerOutcome (s : State) (o : Offer) : OfferOutcome :=
  if s.log.records.getLast?.any (fun r => o.mergesInto s.H r.offer) then .merged
  else if s.log.records.length < Config.logRecords then .appended
  else if o.severe && s.log.records.any (fun r => !r.offer.severe) then .displaced
  else .dropped

/-- The log after it has taken an offer: records, numbering and dropped count by the outcome (R122 to R126), and
the summary and the latch whatever the outcome (R128, R129). -/
def State.logAfter (s : State) (o : Offer) : ErrorLog :=
  let flags := setFlag? s.log.flags o.flag
  let dropped := min (s.log.dropped + 1) Config.countMax
  match s.offerOutcome o with
  | .merged =>
    { s.log with records := bumpNewest s.log.records, flags := flags, firstUE := s.latchAfter o }
  | .appended =>
    { s.log with
      records := s.log.records ++ [s.newRecord o], nextSeq := s.log.nextSeq + 1, flags := flags,
      firstUE := s.latchAfter o }
  | .displaced =>
    { records := dropOldestNotice s.log.records ++ [s.newRecord o], nextSeq := s.log.nextSeq + 1,
      dropped := dropped, flags := setFlag flags flagDropped, firstUE := s.latchAfter o }
  | .dropped =>
    { s.log with dropped := dropped, flags := setFlag flags flagDropped, firstUE := s.latchAfter o }

/-! ## Migration Engine (06) -/

/-- The running tenure once the active context has ended: its outcome will be discarded (R38, log 20). -/
def Tenure.orphaned : Tenure → Tenure
  | .migration phase address buffer _ => .migration phase address buffer false
  | .none => .none
  | .host => .host
  | .scrub => .scrub
  | .peek p => .peek p
  | .poke p w => .poke p w
  | .fill p => .fill p

/-- s with the active context ended and a tenure of it orphaned (R94, R38). -/
def State.endContext (s : State) : State :=
  { s with migration := none, seq := { s.seq with tenure := s.seq.tenure.orphaned } }

/-- An abort of the active migration for CANCEL or FILL (R109, R110): the record is offered, the source entry becomes
COUNTING, the context ends and the target is released with its notice. Without a migration, nothing. -/
def State.abortMigration (s : State) (cause : AbandonCause) : State :=
  match s.migration with
  | none => s
  | some c =>
    (((s.offer (.migrationAbandoned c.logical cause c.target)).setWatch c.source .counting).endContext).freeSlot
      c.target

/-! ## Lifecycle Controller (09) -/

/-- The interval timer after a start event (R62): running from 0 when SCRUB_INTERVAL is nonzero. -/
def startTimer (interval : Nat) : Option Nat := if interval = 0 then none else some 0

/-- The end of a long command's work (R180): result OK, command state IDLE. -/
def State.completeCommand (s : State) : State :=
  { s with mgmt := { s.mgmt with busy := false, lastResult := .ok } }

/-- The event at which FILLING begins (R157, R73, R110). -/
def State.beginFilling (s : State) (back : FillReturn) : State :=
  ({ s with
    lifecycle := .filling back, fillCursor := 0,
    scrub := { s.scrub with credit := 0, timer := none } } : State).abortMigration .fill

/-- The state a fill returns to (R155). -/
def FillReturn.lifecycle : FillReturn → Lifecycle
  | .opened => .opened
  | .hold => .hold

/-- The end of FILLING (R159, R74). -/
def State.endFilling (s : State) (back : FillReturn) : State :=
  let t : State :=
    { s with
      lifecycle := back.lifecycle,
      scrub := { s.scrub with timer := startTimer s.config.scrubInterval } }
  if t.mgmt.busy then t.completeCommand else t

/-- The end of a drain (R163): HOLD with CLOSE complete, or FILLING begins. In any other state, nothing (R151). -/
def State.endDrain (s : State) : State :=
  match s.lifecycle with
  | .draining .hold => ({ s with lifecycle := .hold } : State).completeCommand
  | .draining (.filling back) => s.beginFilling back
  | .filling _ | .hold | .opened => s

/-! ## Host Port (08) -/

/-- The queue once every refused WAITING place whose places ahead are all DONE has become DONE (R145). -/
def settlePlaces : List Place → List Place
  | [] => []
  | p :: rest =>
    if p.state = .done then p :: settlePlaces rest
    else if p.state = .waiting && p.refusal.isSome then { p with state := .done } :: settlePlaces rest
    else p :: rest

/-- The results of a refused request: REFUSED for every beat, with data zero in a READ (R144). -/
def refusedResults (r : Request) : List BeatResult :=
  List.replicate r.beatCount
    ⟨.refused, match r.kind with | .read => some 0 | .write => none⟩

/-- The place a taken request gets (R141, R144). -/
def newPlace (r : Request) (refusal : Option RefusalReason) : Place :=
  match refusal with
  | none => ⟨r, .waiting, none, []⟩
  | some why => ⟨r, .waiting, some why, refusedResults r⟩

/-- Whether a request can be taken: OPEN, and fewer than 8 places (R140). -/
def State.canTake (s : State) : Bool :=
  s.lifecycle = .opened && s.queue.length < Config.queuePlaces

/-- The take of a request (R140 to R145): to the tail, checked, and if refused answered and offered to the log. -/
def State.takeRequest (s : State) (raw : RawRequest) : State :=
  let r := decodeRequest raw
  let t : State :=
    { s with
      pins := { s.pins with presented := none },
      queue := settlePlaces (s.queue ++ [newPlace r (r.refusal s.H)]) }
  match r.refusal s.H with
  | none => t
  | some why => t.offer (.hostRefused r.address why r.tag)

/-- The oldest WAITING request (R146). -/
def State.oldestWaiting (s : State) : Option Place := s.queue.find? (·.state = .waiting)

/-- The queue with its first place in state `src` put in state `dst`. -/
def moveFirst (src dst : PlaceState) : List Place → List Place
  | [] => []
  | p :: rest => if p.state = src then { p with state := dst } :: rest else p :: moveFirst src dst rest

/-- The place in tenure (R145). -/
def State.placeInTenure (s : State) : Option Place := s.queue.find? (·.state = .inTenure)

/-- s with the results of the place in tenure replaced. -/
def State.setResults (s : State) (results : List BeatResult) : State :=
  { s with queue := s.queue.map fun p => if p.state = .inTenure then { p with results := results } else p }

/-- The results of a place once its next beats with mask 00h have been SKIPPED (R50, log 16). -/
def Place.afterSkips (p : Place) : List BeatResult :=
  p.results ++
    ((p.request.beats.drop p.results.length).takeWhile (·.mask = 0)).map fun _ => ⟨.skipped, none⟩

/-- The offered response, if the head place is DONE (R148). -/
def State.response (s : State) : Option Response :=
  match s.queue with
  | [] => none
  | p :: _ => if p.state = .done then some p.response else none

/-- The HRQ_T line (R183): the port can take a request. -/
def State.requestTake (s : State) : Bool := !s.pins.resetLow && s.canTake

/-- The HRS_V line (R183): a response is offered. -/
def State.responseValid (s : State) : Bool := s.response.isSome

/-- The dirty mark after a performed write at logical address l (R52, R105). -/
def State.markDirty (s : State) (l : Nat) : State :=
  match s.migration with
  | none => s
  | some c =>
    if c.logical = l && c.phase ≠ .copyRead then { s with migration := some { c with dirty := true } } else s

/-! ## Management frames (10) -/

/-- SSN falls (R168): a frame starts with no bits, but not while RESET_N is low. With SSN low already, nothing. -/
def State.openFrame (s : State) : State :=
  if s.pins.ssnLow then s
  else
    { s with
      pins := { s.pins with ssnLow := true },
      mgmt := { s.mgmt with frame := if s.pins.resetLow then .idle else .running .fresh 0 } }

/-- SSN rises (R168): the frame ends. -/
def State.closeFrame (s : State) : State :=
  { s with
    pins := { s.pins with ssnLow := false },
    mgmt := { s.mgmt with frame := .idle } }

/-- What a complete SELECT or COMMAND frame does at the rise of SSN that ends it (R168, R170, R178). The frame must be
one with no kind yet known; a frame abandoned by a hardware reset has no effect but the pin's; in a frame of
another kind the event cannot occur (logs 6, 10). -/
def State.atFrameEnd (s : State) (act : State → State) : State :=
  let t := s.openFrame
  match t.mgmt.frame with
  | .running .fresh _ => act t.closeFrame
  | .idle => t.closeFrame
  | .running .read _ | .running .write _ | .running .unknown _ => s

/-- Takes a complete command (R179): discarded with LOST set while BUSY; while IDLE the last command code is set, LOST
and ACCESS_ERROR are cleared, and the owner acts. -/
def State.takeCommand (s : State) (code : BitVec 8) (owner : State → State) : State :=
  s.atFrameEnd fun t =>
    if t.mgmt.busy then { t with mgmt := { t.mgmt with lost := true } }
    else owner { t with mgmt := { t.mgmt with lastCode := code, lost := false, accessError := false } }

/-- s with the last result of an immediate command or a refusal (R179). -/
def State.answer (s : State) (r : CommandResult) : State :=
  { s with mgmt := { s.mgmt with lastResult := r } }

/-- s with a long command accepted: BUSY, the last result unchanged (R179). -/
def State.goBusy (s : State) : State := { s with mgmt := { s.mgmt with busy := true } }

/-- An event of the running part: nothing happens while RESET_N is low (R58, R156, R168). -/
def whileRunning (s : State) (t : State) : Result := .next (if s.pins.resetLow then s else t)

end Sys2Proof.Machine
end

