-- ==== Sys2Proof/Machine/Accounting.lean ====
section
/-! DEFINITION. The commands RETIRE, CLEAR_WATCH and SCRUB_SEEK (R72, R90, R91). -/

namespace Sys2Proof.Machine

/-- RETIRE's tests and change (R90). -/
def State.takeRetire (s : State) (l : Nat) : State :=
  if s.H ≤ l then s.answer .range
  else if s.migrating l || s.queuedForRetirement l then s.answer .duplicate
  else if Config.retirePlaces ≤ s.retq.length then s.answer .full
  else
    ({ s.setWatch (s.forward l) .queued with retq := s.retq ++ [⟨l, .command⟩] } : State).answer .ok

/-- RETIRE L (R90). -/
def execRetire (l : MgmtWord) (s : State) : Result := .next (s.takeCommand codeRetire fun t => t.takeRetire l.toNat)

/-- CLEAR_WATCH (R91). -/
def execClearWatch (s : State) : Result :=
  .next (s.takeCommand codeClearWatch fun t => ({ t with watch := [] } : State).answer .ok)

/-- The step in progress after the cursor has been set by a command (R71). -/
def State.markCursorMoved (s : State) : Option ScrubStep :=
  s.scrub.step.map fun st => { st with cursorMoved := true }

/-- SCRUB_SEEK's test and change (R72). -/
def State.takeSeek (s : State) (p : Nat) : State :=
  if s.W ≤ p then s.answer .range
  else ({ s with scrub := { s.scrub with cursor := p, step := s.markCursorMoved } } : State).answer .ok

/-- SCRUB_SEEK P (R72). -/
def execScrubSeek (p : MgmtWord) (s : State) : Result :=
  .next (s.takeCommand codeScrubSeek fun t => t.takeSeek p.toNat)

end Sys2Proof.Machine
end

