-- ==== Sys2Proof/Machine/Arbiter.lean ====
section
/-! DEFINITION. The claims, the arbiter and the grants (R37, R39 to R44, R66 to R68, R95, R146, R158). -/

namespace Sys2Proof.Machine

/-- The claimants (R39). -/
inductive Claimant where
  | host | migration | scrub | diag | fill
  deriving DecidableEq, Repr

/-- Whether the active migration is pinned (R107). -/
def State.pinned (s : State) : Bool :=
  match s.migration with
  | some c => c.pinned
  | none => false

/-- Whether pinning blocks a request (R41): a WRITE any of whose beats names the pinned migration's logical address. -/
def State.blocked (s : State) (r : Request) : Bool :=
  match s.migration with
  | some c => c.pinned && r.kind = .write && r.names c.logical
  | none => false

/-- The HOST claim (R39, R41): the oldest WAITING request is not blocked. -/
def State.hostClaim (s : State) : Bool :=
  match s.oldestWaiting with
  | some p => !s.blocked p.request
  | none => false

/-- The MIGRATION claim (R39), at a moment when no tenure runs. -/
def State.migrationClaim (s : State) : Bool := s.migration.isSome

/-- The SCRUB claim (R39, R66). -/
def State.scrubClaim (s : State) : Bool := 1 ≤ s.scrub.credit && s.scrub.step.isNone

/-- The FILL claim (R39), at a moment when no tenure runs. -/
def State.fillClaim (s : State) : Bool := s.fillCursor < s.W

/-- Line 3 of the precedence list (R42): a pinned migration, or a host streak of MIGRATION_FAIRNESS or more. -/
def State.migrationFirst (s : State) : Bool := s.pinned || s.config.migrationFairness ≤ s.seq.streak

/-- The precedence list (R42), for a state in which the host is eligible or not (R40). -/
def State.firstClaim (s : State) (hostEligible : Bool) : Option Claimant :=
  if s.scrubClaim && Config.creditUrgent ≤ s.scrub.credit then some .scrub
  else if s.mgmt.diagClaim.isSome then some .diag
  else if s.migrationClaim && s.migrationFirst then some .migration
  else if hostEligible && s.hostClaim then some .host
  else if s.migrationClaim then some .migration
  else if s.scrubClaim then some .scrub
  else none

/-- The claim a grant decision grants (R40, R42): only FILL in FILLING; no host in HOLD. -/
def State.grantChoice (s : State) : Option Claimant :=
  match s.lifecycle with
  | .filling _ => if s.fillClaim then some .fill else none
  | .hold => s.firstClaim false
  | .opened | .draining _ => s.firstClaim true

/-- Whether the scrubber passes over physical address p: a retired word or an idle slot (R68). -/
def State.passedOver (s : State) (p : Nat) : Bool :=
  match s.kindAt p with
  | some .retired | some (.idleSlot _) => true
  | some .home | some (.slotInUse _) | none => false

/-- The cursor and the pass counter one word further (R67). -/
def cursorNext (w : Nat) (c : Nat × BitVec 16) : Nat × BitVec 16 :=
  if c.1 + 1 < w then (c.1 + 1, c.2) else (0, c.2 + 1)

/-- The search of a scrub grant (R68): from the cursor over words that need no checking, for at most `fuel` words. -/
def State.scrubSearch (s : State) : Nat → Nat × BitVec 16 → Nat × BitVec 16
  | 0, c => c
  | fuel + 1, c => if s.passedOver c.1 then s.scrubSearch fuel (cursorNext s.W c) else c

/-- The cursor and pass counter at the grant of a scrub step. At most 64 words are retired and 64 slots idle, so 128 words
of search suffice (log 21). -/
def State.scrubTarget (s : State) : Nat × BitVec 16 := s.scrubSearch 128 (s.scrub.cursor, s.scrub.passes)

/-- HOST granted (R43, R146): the oldest WAITING place is in tenure and the streak rises. -/
def State.grantHost (s : State) : State :=
  { s with
    queue := moveFirst .waiting .inTenure s.queue,
    seq := ⟨.host, min (s.seq.streak + 1) Config.streakMax⟩ }

/-- SCRUB granted (R68): the cursor stands at the step's target. -/
def State.grantScrub (s : State) : State :=
  { s with
    scrub := { s.scrub with
      cursor := s.scrubTarget.1, passes := s.scrubTarget.2, step := some ⟨s.scrubTarget.1, false, false⟩ },
    seq := { s.seq with tenure := .scrub } }

/-- The physical address a migration tenure accesses (R95): P for COPY_READ, the target slot's for the others. -/
def State.phaseAddress (s : State) (c : MigrationContext) : Nat :=
  match c.phase with
  | .copyRead => c.source
  | .copyWrite | .verify => s.slotAddress c.target

/-- MIGRATION granted (R43, R95, R101): the tenure of the phase, with the buffer as it stands; the streak is 0. A COPY_WRITE
with an empty buffer, which no reachable state has, would store zero (log 21). -/
def State.grantMigration (s : State) : State :=
  match s.migration with
  | some c => { s with seq := ⟨.migration c.phase (s.phaseAddress c) (c.buffer.getD 0) true, 0⟩ }
  | none => s

/-- DIAG granted (R37, R56): a POKE takes the DIAG data and check byte as they stand. -/
def State.grantDiag (s : State) : State :=
  match s.mgmt.diagClaim with
  | some (.peek p) =>
    { s with seq := { s.seq with tenure := .peek p }, mgmt := { s.mgmt with diagClaim := none } }
  | some (.poke p) =>
    { s with
      seq := { s.seq with tenure := .poke p ⟨s.mgmt.diag.data, s.mgmt.diag.check⟩ },
      mgmt := { s.mgmt with diagClaim := none } }
  | none => s

/-- FILL granted (R158): the fill word at the fill cursor. -/
def State.grantFill (s : State) : State := { s with seq := { s.seq with tenure := .fill s.fillCursor } }

/-- The grant to a claimant (R42). -/
def State.grant (s : State) : Claimant → State
  | .host => s.grantHost
  | .migration => s.grantMigration
  | .scrub => s.grantScrub
  | .diag => s.grantDiag
  | .fill => s.grantFill

/-- GRANT_DECISION (R42): while the port is free, the first eligible pending claim is granted. -/
def execGrantDecision (s : State) : Result :=
  if s.seq.tenure = .none then
    match s.grantChoice with
    | some c => whileRunning s (s.grant c)
    | none => .next s
  else .next s

end Sys2Proof.Machine
end

