-- ==== Sys2Proof/Machine/Migration.lean ====
section
/-! DEFINITION. Word migration: start, the three tenures' completions, and cancel (06). -/

namespace Sys2Proof.Machine

/-- Whether the three conditions of a start hold (R96). -/
def State.canStart (s : State) : Bool :=
  s.migration.isNone && (s.lifecycle = .opened || s.lifecycle = .hold) && !s.retq.isEmpty

/-- A start on request r, already removed from the queue, with a FREE slot k (R97): the context, the reservation, the
source entry MIGRATING, then the DUE offers. -/
def State.startWith (s : State) (r : RetireRequest) (k : Fin 64) : State :=
  let p := s.forward r.logical
  let t : State :=
    { s.setSlot k .reserved with
      migration := some ⟨r.logical, p, k, .copyRead, none, false, 0, false, r.origin⟩ }
  (t.setWatch p .migrating).offerDueEntries

/-- A start on request r, already removed from the queue, with no FREE slot (R98): SLOTS_EXHAUSTED, the source entry
STUCK, then the DUE offers. -/
def State.startWithout (s : State) (r : RetireRequest) : State :=
  ((s.offer (.slotsExhausted r.logical)).setWatch (s.forward r.logical) .stuck).offerDueEntries

/-- MIGRATION_START (R96 to R98). -/
def execMigrationStart (s : State) : Result :=
  match s.retq with
  | [] => .next s
  | r :: rest =>
    if s.canStart then
      let t : State := { s with retq := rest }
      whileRunning s
        (match t.lowestFree with
        | some k => t.startWith r k
        | none => t.startWithout r)
    else .next s

/-- s with the running tenure completed and the port free (R37). -/
def State.freePort (s : State) : State := { s with seq := { s.seq with tenure := .none } }

/-- s with the active context replaced by c. -/
def State.setContext (s : State) (c : MigrationContext) : State := { s with migration := some c }

/-- The abandon of the active migration for SOURCE_UE (R100): records in order, the source entry removed, the context
ended, the target released with its notice. -/
def State.abandon (s : State) (c : MigrationContext) (syn : BitVec 8) : State :=
  (((((s.offer (.ue (.migrate c.logical) c.source syn)).offer (.migrationAbandoned c.logical .sourceUE c.target)).dropWatch
    c.source).endContext).freeSlot c.target)

/-- The outcome of a COPY_READ for the active context (R99, R100). -/
def State.copyReadOutcome (s : State) (c : MigrationContext) (d : Decoded) : State :=
  match d.found with
  | .clean => s.setContext { c with buffer := some d.output, phase := .copyWrite }
  | .correctable =>
    (s.setContext { c with buffer := some d.output, phase := .copyWrite }).offer
      (.ce (.migrate c.logical) c.source (d.bitPosition.getD 0) d.syndrome)
  | .uncorrectable _ => s.abandon c d.syndrome

/-- COPY_READ_COMPLETION (R99, R38): the source is decoded; the outcome is discarded when the context has ended. -/
def execCopyReadCompletion (s : State) : Result :=
  match s.seq.tenure with
  | .migration .copyRead p _ live =>
    let t := s.freePort
    atArray s p
      (whileRunning s
        (match s.migration with
        | some c => if live then t.copyReadOutcome c (s.decodeAt p) else t
        | none => t))
  | .migration .copyWrite _ _ _ | .migration .verify _ _ _ | .none | .host | .scrub | .peek _ | .poke _ _
  | .fill _ => .next s

/-- COPY_WRITE_COMPLETION (R101, R38): the buffer is stored in the target slot, whatever has become of the context; the
phase of the active context becomes VERIFY. -/
def execCopyWriteCompletion (s : State) : Result :=
  match s.seq.tenure with
  | .migration .copyWrite p d live =>
    let t := (s.store p (encodeWord d)).freePort
    atArray s p
      (whileRunning s
        (match s.migration with
        | some c => if live then t.setContext { c with phase := .verify } else t
        | none => t))
  | .migration .copyRead _ _ _ | .migration .verify _ _ _ | .none | .host | .scrub | .peek _ | .poke _ _
  | .fill _ => .next s

/-- A failed verify (R103, R104): SPARE_FAIL, the target BAD, and a new target, or exhaustion. -/
def State.verifyFailed (s : State) (c : MigrationContext) (found : WordClass) : State :=
  let t := (s.setSlot c.target .bad).offer (.spareFail c.target c.logical found)
  match t.lowestFree with
  | some k =>
    (t.setSlot k .reserved).setContext
      { c with target := k, dirty := false, phase := if c.dirty then .copyRead else .copyWrite }
  | none => ((t.offer (.slotsExhausted c.logical)).setWatch c.source .stuck).endContext

/-- A good verify while dirty (R106, R107): the copy begins again, pinned after the third restart. -/
def State.verifyDirty (s : State) (c : MigrationContext) : State :=
  if c.restarts < Config.restartsMax then
    s.setContext { c with restarts := c.restarts + 1, dirty := false, phase := .copyRead }
  else s.setContext { c with pinned := true, dirty := false, phase := .copyRead }

/-- Install's change of the table and the pool (R22): a new entry, or the entry moved with its old slot BAD. -/
def State.installEntry (s : State) (c : MigrationContext) : State :=
  match s.mappedSlot c.logical with
  | none =>
    (s.setEntry c.target (some ⟨c.logical, .migrated, 1⟩)).setSlot c.target .inUse
  | some old =>
    let moves :=
      match s.tu.table[old] with
      | some e => min (e.moves + 1) Config.streakMax
      | none => 1
    ((((s.setEntry old none).setEntry c.target (some ⟨c.logical, .migrated, moves⟩)).setSlot c.target .inUse).setSlot
      old .bad)

/-- Install (R108). -/
def State.install (s : State) (c : MigrationContext) : State :=
  (((s.installEntry c).offer (.migrationDone c.logical c.source c.target)).dropWatch c.source).endContext

/-- The judgement of a VERIFY and what follows (R102). -/
def State.verifyOutcome (s : State) (c : MigrationContext) (d : Decoded) : State :=
  if d.found = .clean ∧ c.buffer = some d.output then
    if c.dirty then s.verifyDirty c else s.install c
  else s.verifyFailed c d.found

/-- VERIFY_COMPLETION (R102, R38). -/
def execVerifyCompletion (s : State) : Result :=
  match s.seq.tenure with
  | .migration .verify p _ live =>
    let t := s.freePort
    atArray s p
      (whileRunning s
        (match s.migration with
        | some c => if live then t.verifyOutcome c (s.decodeAt p) else t
        | none => t))
  | .migration .copyRead _ _ _ | .migration .copyWrite _ _ _ | .none | .host | .scrub | .peek _ | .poke _ _
  | .fill _ => .next s

/-- CANCEL_MIGRATION (R109): EMPTY without a migration. -/
def execCancelMigration (s : State) : Result :=
  .next (s.takeCommand codeCancelMigration fun t =>
    if t.migration.isSome then (t.abortMigration .cancel).answer .ok else t.answer .empty)

end Sys2Proof.Machine
end

