-- ==== Sys2Proof/Machine/Diagnostics.lean ====
section
/-! DEFINITION. PEEK and POKE (R54 to R57, R176). -/

namespace Sys2Proof.Machine

/-- The tests of PEEK and POKE at their take (R54): RANGE, then STATE in FILLING, else BUSY with a DIAG claim. -/
def State.takeDiag (s : State) (p : Nat) (claim : DiagClaim) : State :=
  if s.W ≤ p then s.answer .range
  else
    match s.lifecycle with
    | .filling _ => s.answer .state
    | .hold | .opened | .draining _ => { s.goBusy with mgmt := { s.goBusy.mgmt with diagClaim := some claim } }

/-- PEEK P (R54). -/
def execPeek (p : MgmtWord) (s : State) : Result :=
  .next (s.takeCommand codePeek fun t => t.takeDiag p.toNat (.peek p.toNat))

/-- POKE P (R54). -/
def execPoke (p : MgmtWord) (s : State) : Result :=
  .next (s.takeCommand codePoke fun t => t.takeDiag p.toNat (.poke p.toNat))

/-- The DIAG window after a PEEK (R55): the stored bits as read, class with form, syndrome. -/
def diagOf (d : Decoded) : DiagWindow := ⟨d.stored.data, d.stored.check, d.found, d.syndrome⟩

/-- PEEK_COMPLETION (R55, R180). -/
def execPeekCompletion (s : State) : Result :=
  match s.seq.tenure with
  | .peek p =>
    atArray s p
      (whileRunning s
        (({ s with mgmt := { s.mgmt with diag := diagOf (s.decodeAt p) } } : State).freePort.completeCommand))
  | .none | .host | .migration _ _ _ _ | .scrub | .poke _ _ | .fill _ => .next s

/-- POKE_COMPLETION (R56, R180): the word as it stood at the grant is stored unencoded. -/
def execPokeCompletion (s : State) : Result :=
  match s.seq.tenure with
  | .poke p w => atArray s p (whileRunning s ((s.store p w).freePort.completeCommand))
  | .none | .host | .migration _ _ _ _ | .scrub | .peek _ | .fill _ => .next s

end Sys2Proof.Machine
end

