-- ==== Sys2Proof/Machine/HandOff.lean ====
section
/-! DEFINITION. The take of an offered record and of a CE report (R77, R122, R127). -/

namespace Sys2Proof.Machine

/-- RECORD_OFFER (R122): the Error Log takes the oldest outstanding offer of a block. R127 orders the offers of one event; taking
those of different events of one block oldest first is a DESIGN CHOICE (log 8). -/
def execRecordOffer (src : OfferSource) (s : State) : Result :=
  match s.offers.find? (·.source = src) with
  | none => .next s
  | some o => whileRunning s { s with log := s.logAfter o, offers := s.offers.eraseP (·.source = src) }

/-- CE_REPORT (R77): the Watch List takes the oldest outstanding report of a source. Oldest first is a DESIGN CHOICE: R77 takes
reports that arrive together in either order, those of two beats of a burst among them (log 9). -/
def execCeReport (src : ReportSource) (s : State) : Result :=
  match s.reports.find? (·.src = src) with
  | none => .next s
  | some r =>
    whileRunning s (({ s with reports := s.reports.eraseP (·.src = src) } : State).takeReport r.physical)

end Sys2Proof.Machine
end

