-- ==== Sys2Proof/Machine/HardwareReset.lean ====
section
/-! DEFINITION. Hardware reset: RESET_N driven low and RESET_N rising (R58, R75, R112, R136, R152, R156, R165, R166). -/

namespace Sys2Proof.Machine

/-- The physical address that the next beat of the place in tenure, the first not yet performed or skipped, would be
writing: the target of a write or merge beat, or of the write-back of a CORRECTABLE read beat (R45, R47, R48, R49). -/
def State.beatWriteAddress (s : State) : Option Nat :=
  match s.placeInTenure with
  | none => none
  | some p =>
    let i := p.afterSkips.length
    let a := s.forward (p.request.beatAddress i)
    if i < p.request.beatCount then
      match p.request.kind with
      | .read => if s.config.readWriteback && (s.decodeAt a).found = .correctable then some a else none
      | .write => (p.request.beats[i]?).map fun _ => a
    else none

/-- The word being written when a hardware reset cuts the running tenure off (R58). A COPY_WRITE, POKE or fill tenure is one
write, and its word is left undefined (R112, R165). A host tenure or a scrub step writes only at some moments
(R75, R152), so midWrite says whether this is one of them (log 5). -/
def State.cutWord (s : State) (midWrite : Bool) : Option Nat :=
  match s.seq.tenure with
  | .none | .peek _ | .migration .copyRead _ _ _ | .migration .verify _ _ _ => none
  | .migration .copyWrite p _ _ => some p
  | .poke p _ => some p
  | .fill p => some p
  | .scrub =>
    match s.scrub.step with
    | some st =>
      if midWrite && !st.decoded && (s.decodeAt st.target).found = .correctable then some st.target else none
    | none => none
  | .host => if midWrite then s.beatWriteAddress else none

/-- The array after a cut-off: the word being written, if any, holds a free value (R58, log 4). -/
def State.cutArray (s : State) (midWrite : Bool) : State :=
  match s.cutWord midWrite with
  | none => s
  | some p => { s.store p (Config.undefinedWord s.freeCount) with freeCount := s.freeCount + 1 }

/-- RESET_N goes low (R58, R136, R152, R168): the tenure is cut off, the host queue and every hand-off under way are
discarded, and the frame is abandoned. The other state takes its reset values at the rise (log 11). -/
def State.driveLow (s : State) (midWrite : Bool) : State :=
  let t := s.cutArray midWrite
  { t with
    pins := { t.pins with resetLow := true },
    seq := { t.seq with tenure := .none },
    queue := [], offers := [], reports := [],
    mgmt := { t.mgmt with frame := .idle, diagClaim := none } }

/-- RESET_N rises (R156, R34, R58, R75, R93, R112, R136, R152, R181): straps sampled, every block at its reset values;
the array, the pins of the outside and the queue of commands are kept. -/
def State.riseWith (s : State) (a : Fin 8) (preserve : Bool) : State :=
  { State.afterReset a preserve with
    pins := { s.pins with resetLow := false },
    array := s.array, freeCount := s.freeCount, pending := s.pending }

/-- RESET_N_LOW (R58). While RESET_N is low already there is no edge (log 6). -/
def execResetNLow (midWrite : Bool) (s : State) : Result := .next (if s.pins.resetLow then s else s.driveLow midWrite)

/-- RESET_N_RISE (R156). Given while RESET_N is high it stands for the whole pulse (log 11). -/
def execResetNRise (a : Fin 8) (preserve : Bool) (s : State) : Result :=
  .next ((if s.pins.resetLow then s else s.driveLow false).riseWith a preserve)

end Sys2Proof.Machine
end

