-- ==== Sys2Proof/Machine/HostPort.lean ====
section
/-! DEFINITION. The host channel: requests taken and responses taken (08). -/

namespace Sys2Proof.Machine

/-- REQUEST_TAKEN (R140): the request arriving on the channel is taken when the state is OPEN and a place is free; else
the host holds it on the channel, in place of any it held before (R138, log 14). -/
def execRequestTaken (header : BitVec 32) (b0 b1 b2 b3 : BitVec 72) (s : State) : Result :=
  let raw : RawRequest := ⟨header, b0, b1, b2, b3⟩
  if s.requestTake then .next (s.takeRequest raw)
  else .next { s with pins := { s.pins with presented := some raw } }

/-- HELD_REQUEST_TAKEN (R140): the request held on the channel is taken once both conditions hold. -/
def execHeldRequestTaken (s : State) : Result :=
  match s.pins.presented with
  | some raw => .next (if s.requestTake then s.takeRequest raw else s)
  | none => .next s

/-- RESPONSE_TAKEN (R148, R151, R163): the DONE head place is freed; an emptied queue ends a drain. -/
def execResponseTaken (s : State) : Result :=
  match s.queue with
  | [] => .next s
  | p :: rest =>
    if p.state = .done then
      let t : State := { s with queue := rest }
      whileRunning s (if rest.isEmpty then t.endDrain else t)
    else .next s

end Sys2Proof.Machine
end

