-- ==== Sys2Proof/Machine/HostTenure.lean ====
section
/-! DEFINITION. Host tenures beat by beat (R45 to R52, R146, R147). -/

namespace Sys2Proof.Machine

/-- A write of a host beat (R45, R52): word w stored at the beat's address, result st recorded, and the dirty mark of
a migration of logical address l set. -/
def State.performWrite (s : State) (l p : Nat) (w : ArrayWord) (results : List BeatResult) (st : BeatStatus) : State :=
  ((s.store p w).markDirty l).setResults (results ++ [⟨st, none⟩])

/-- A read beat at physical address p (R46, R47, R51): status and data by the class found; a CE is reported and offered,
and written back when READ_WRITEBACK is 1; a UE is offered. -/
def State.readBeatAt (s : State) (p : Nat) (results : List BeatResult) : State :=
  let d := s.decodeAt p
  match d.found with
  | .clean => s.setResults (results ++ [⟨.clean, some d.output⟩])
  | .correctable =>
    let t := if s.config.readWriteback then s.store p (encodeWord d.output) else s
    ((t.setResults (results ++ [⟨.corrected, some d.output⟩])).report .hostBeat p).offer
      (.ce .host p (d.bitPosition.getD 0) d.syndrome)
  | .uncorrectable _ =>
    (s.setResults (results ++ [⟨.poisoned, some d.output⟩])).offer (.ue .host p d.syndrome)

/-- A merge beat of logical address l at physical address p (R49, R13, R51, R52). -/
def State.mergeBeatAt (s : State) (l p : Nat) (b : WriteBeat) (results : List BeatResult) : State :=
  let d := s.decodeAt p
  let w := mergedWord d b.data b.mask
  match d.found with
  | .clean => s.performWrite l p w results .merged
  | .correctable =>
    ((s.performWrite l p w results .mergedCorrected).report .hostBeat p).offer
      (.ce .merge p (d.bitPosition.getD 0) d.syndrome)
  | .uncorrectable _ =>
    (s.performWrite l p w results .mergedPoisoned).offer (.ue .merge p d.syndrome)

/-- The place whose request is in a running host tenure (R37). -/
def State.hostTenurePlace (s : State) : Option Place :=
  match s.seq.tenure with
  | .host => s.placeInTenure
  | .none | .migration _ _ _ _ | .scrub | .peek _ | .poke _ _ | .fill _ => none

/-- HOST_READ_BEAT (R46): the next beat of the READ in tenure, looked up and read. -/
def execHostReadBeat (s : State) : Result :=
  match s.hostTenurePlace with
  | none => .next s
  | some pl =>
    let i := pl.results.length
    if pl.request.kind = .read ∧ i < pl.request.beatCount then
      let p := s.forward (pl.request.beatAddress i)
      atArray s p (whileRunning s (s.readBeatAt p pl.results))
    else .next s

/-- HOST_WRITE_BEAT (R48): the next beat that is not skipped, of mask FFh, stored without a read. -/
def execHostWriteBeat (s : State) : Result :=
  match s.hostTenurePlace with
  | none => .next s
  | some pl =>
    let i := pl.afterSkips.length
    match pl.request.beats[i]? with
    | none => .next s
    | some b =>
      if b.mask = 0xFF then
        let l := pl.request.beatAddress i
        let p := s.forward l
        atArray s p (whileRunning s (s.performWrite l p (encodeWord b.data) pl.afterSkips .written))
      else .next s

/-- HOST_MERGE_BEAT (R49): the next beat that is not skipped, of mask 01h to FEh, merged into the word read. -/
def execHostMergeBeat (s : State) : Result :=
  match s.hostTenurePlace with
  | none => .next s
  | some pl =>
    let i := pl.afterSkips.length
    match pl.request.beats[i]? with
    | none => .next s
    | some b =>
      if b.mask ≠ 0xFF then
        let l := pl.request.beatAddress i
        let p := s.forward l
        atArray s p (whileRunning s (s.mergeBeatAt l p b pl.afterSkips))
      else .next s

/-- HOST_TENURE_COMPLETION (R45, R50, R145): once every beat has been performed or skipped, the place becomes DONE with
the refused places directly behind it, and the port is free. -/
def execHostTenureCompletion (s : State) : Result :=
  match s.hostTenurePlace with
  | none => .next s
  | some pl =>
    if pl.afterSkips.length = pl.request.beatCount then
      let t := s.setResults pl.afterSkips
      whileRunning s
        { t with
          queue := settlePlaces (moveFirst .inTenure .done t.queue),
          seq := { t.seq with tenure := .none } }
    else .next s

end Sys2Proof.Machine
end

