-- ==== Sys2Proof/Machine/Lifecycle.lean ====
section
/-! DEFINITION. The fill and the lifecycle commands OPEN, CLOSE, FILL and SOFT_RESET (09). -/

namespace Sys2Proof.Machine

/-- FILL_WORD_COMPLETION (R158, R159): zero with check byte 00h at the cursor's word, the cursor one further, and the end
of FILLING when it reaches W. -/
def execFillWordCompletion (s : State) : Result :=
  match s.seq.tenure with
  | .fill p =>
    let t : State := { (s.store p ⟨0, 0⟩).freePort with fillCursor := s.fillCursor + 1 }
    atArray s p
      (whileRunning s
        (match s.lifecycle with
        | .filling back => if t.fillCursor = s.W then t.endFilling back else t
        | .hold | .opened | .draining _ => t))
  | .none | .host | .migration _ _ _ _ | .scrub | .peek _ | .poke _ _ => .next s

/-- OPEN (R160): HOLD becomes OPEN; refused with STATE in any other state. In DRAINING the command state is BUSY, so
the command does not get this far (log 21). -/
def execOpen (s : State) : Result :=
  .next (s.takeCommand codeOpen fun t =>
    match t.lifecycle with
    | .hold => ({ t with lifecycle := .opened } : State).answer .ok
    | .opened | .filling _ | .draining _ => t.answer .state)

/-- A drain begun by CLOSE or FILL in OPEN (R161 to R163): BUSY, and at its end at once when the queue is empty. -/
def State.beginDrain (s : State) (target : DrainTarget) : State :=
  let t : State := { s.goBusy with lifecycle := .draining target }
  if t.queue.isEmpty then t.endDrain else t

/-- CLOSE (R161): refused with STATE outside OPEN. -/
def execClose (s : State) : Result :=
  .next (s.takeCommand codeClose fun t =>
    match t.lifecycle with
    | .opened => t.beginDrain .hold
    | .hold | .filling _ | .draining _ => t.answer .state)

/-- FILL (R162): from OPEN by a drain, from HOLD at once; refused with STATE in FILLING. -/
def execFill (s : State) : Result :=
  .next (s.takeCommand codeFill fun t =>
    match t.lifecycle with
    | .opened => t.beginDrain (.filling .opened)
    | .hold => t.goBusy.beginFilling .hold
    | .filling _ | .draining _ => t.answer .state)

/-- The interval timer after SOFT_RESET (R76): from 0, unless stopped by FILLING or by SCRUB_INTERVAL 0. -/
def State.timerAfterSoftReset (s : State) : Option Nat :=
  match s.lifecycle with
  | .filling _ => none
  | .hold | .opened | .draining _ => startTimer s.config.scrubInterval

/-- The pool after SOFT_RESET (R35, R111): a RESERVED target is FREE. -/
def State.releaseTarget (s : State) : State :=
  match s.migration with
  | some c => s.setSlot c.target .free
  | none => s

/-- SOFT_RESET's effects, one event (R164, R35, R59, R76, R93, R111, R137, R153, R181). The released slot's notice finds
the Watch List empty (R24). -/
def State.softReset (s : State) : State :=
  let t := s.releaseTarget.endContext
  { t with
    seq := { t.seq with streak := 0 },
    scrub := { t.scrub with
      timer := t.timerAfterSoftReset, credit := 0, cursor := 0, passes := 0, step := t.markCursorMoved },
    watch := [], retq := [], log := .reset }

/-- SOFT_RESET (R164). -/
def execSoftReset (s : State) : Result := .next (s.takeCommand codeSoftReset fun t => t.softReset.answer .ok)

end Sys2Proof.Machine
end

