-- ==== Sys2Proof/Machine/LogCommands.lean ====
section
/-! DEFINITION. The commands POP_LOG, CLEAR_LOG and CLEAR_SUMMARY (R132 to R134). -/

namespace Sys2Proof.Machine

/-- POP_LOG (R132): the head record leaves; EMPTY when there is none. -/
def execPopLog (s : State) : Result :=
  .next (s.takeCommand codePopLog fun t =>
    match t.log.records with
    | [] => t.answer .empty
    | _ :: rest => ({ t with log := { t.log with records := rest } } : State).answer .ok)

/-- CLEAR_LOG (R133): every record leaves; the numbering, the dropped count and the summary stay. -/
def execClearLog (s : State) : Result :=
  .next (s.takeCommand codeClearLog fun t => ({ t with log := { t.log with records := [] } } : State).answer .ok)

/-- CLEAR_SUMMARY (R134): flags, first-UE latch and dropped count. -/
def execClearSummary (s : State) : Result :=
  .next (s.takeCommand codeClearSummary fun t =>
    ({ t with log := { t.log with flags := 0, firstUE := none, dropped := 0 } } : State).answer .ok)

end Sys2Proof.Machine
end

