-- ==== Sys2Proof/Machine/Windows.lean ====
section
/-! DEFINITION. The windows of the Management Port: selection, index ranges, and every word's layout (R169, R177, R185,
R186, R33, R92, R116, R135). -/

namespace Sys2Proof.Machine

/-- A field of `width` bits holding `value`, with its bit 0 at bit `low` of a management word (R185). -/
def field (width low value : Nat) : MgmtWord := ((BitVec.ofNat width value).setWidth 32) <<< low

/-- A one-bit field. -/
def bit (low : Nat) (b : Bool) : MgmtWord := field 1 low b.toNat

/-- The window a code names; no code names NONE (R184). -/
def windowOfCode (code : BitVec 8) : Option Window :=
  match code.toNat with
  | 0x10 => some .config
  | 0x11 => some .status
  | 0x12 => some .migration
  | 0x13 => some .repair
  | 0x14 => some .slots
  | 0x15 => some .watch
  | 0x16 => some .retq
  | 0x17 => some .log
  | 0x18 => some .diag
  | _ => none

/-- The last index of a window (R169). -/
def Window.lastIndex : Window → Nat
  | .none => 0
  | .config => 5
  | .status => 10
  | .migration => 2
  | .repair => 127
  | .slots => 63
  | .watch => 15
  | .retq => 3
  | .log => 3
  | .diag => 3

/-- Codes of R185. -/
def Lifecycle.code : Lifecycle → Nat
  | .filling _ => 0
  | .hold => 1
  | .opened => 2
  | .draining _ => 3

/-- The drain target bit, shown in DRAINING only (R155, R185). -/
def Lifecycle.drainBit : Lifecycle → Bool
  | .draining (.filling _) => true
  | .draining .hold | .filling _ | .hold | .opened => false

def MigrationPhase.code : MigrationPhase → Nat
  | .copyRead => 0
  | .copyWrite => 1
  | .verify => 2

def RepairOrigin.code : RepairOrigin → Nat
  | .loaded => 0
  | .migrated => 1

def RetireOrigin.code : RetireOrigin → Nat
  | .watch => 0
  | .command => 1

def SlotState.code : SlotState → Nat
  | .free => 0
  | .reserved => 1
  | .inUse => 2
  | .bad => 3

def WatchState.code : WatchState → Nat
  | .counting => 0
  | .due => 1
  | .queued => 2
  | .migrating => 3
  | .stuck => 4

def WordClass.code : WordClass → Nat
  | .clean => 0
  | .correctable => 1
  | .uncorrectable .double => 2
  | .uncorrectable .multi => 3

/-- Result codes (R184). -/
def CommandResult.code : CommandResult → Nat
  | .none => 0
  | .ok => 1
  | .state => 3
  | .range => 4
  | .mapped => 5
  | .unmapped => 6
  | .slotState => 7
  | .full => 8
  | .duplicate => 9
  | .inMigration => 10
  | .empty => 11
  | .unknown => 12

def AbandonCause.code : AbandonCause → Nat
  | .sourceUE => 0
  | .cancel => 1
  | .fill => 2

/-- CONFIG: config word i in the low bits of index i (R175, R185). -/
def State.configWord (s : State) (i : Nat) : MgmtWord :=
  match i with
  | 0 => field 4 0 s.config.ceThreshold
  | 1 => field 16 0 s.config.scrubInterval
  | 2 => bit 0 s.config.readWriteback
  | 3 => s.config.alertMask.setWidth 32
  | 4 => field 8 0 s.config.timebaseDiv
  | 5 => field 4 0 s.config.migrationFairness
  | _ => 0

/-- STATUS (R177, R185). While the first-UE latch holds a UE without a logical address, index 7 reads 0: DESIGN CHOICE, since
R129 states zero for a clear latch only (log 28). -/
def State.statusWord (s : State) (i : Nat) : MgmtWord :=
  match i with
  | 0 =>
    field 2 0 s.lifecycle.code ||| bit 2 s.lifecycle.drainBit ||| field 4 4 s.queue.length
      ||| field 7 8 s.freeSlots
  | 1 => field 25 0 s.fillCursor
  | 2 => field 24 0 s.scrub.cursor ||| field 3 24 s.scrub.credit
  | 3 => s.scrub.passes.setWidth 32 ||| field 5 16 s.log.records.length
  | 4 => field 8 0 s.log.dropped ||| (s.log.flags.setWidth 32) <<< 8
  | 5 => s.scrub.microseconds
  | 6 =>
    match s.log.firstUE with
    | some u => bit 31 true ||| bit 30 u.owner.isSome ||| field 4 24 u.finder.ueCode ||| field 24 0 u.physical
    | none => 0
  | 7 =>
    match s.log.firstUE with
    | some u => field 24 0 (u.owner.getD 0)
    | none => 0
  | 8 =>
    bit 31 s.mgmt.busy ||| bit 30 s.mgmt.lost ||| bit 29 s.mgmt.accessError
      ||| field 4 8 s.mgmt.lastResult.code ||| s.mgmt.lastCode.setWidth 32
  | 9 => field 25 0 s.W
  | 10 => field 24 0 s.H
  | _ => 0

/-- MIGRATION (R116, R185). -/
def State.migrationWord (s : State) (i : Nat) : MgmtWord :=
  match s.migration with
  | none => 0
  | some c =>
    match i with
    | 0 =>
      bit 31 true ||| field 2 29 c.phase.code ||| bit 28 c.dirty ||| bit 27 c.pinned ||| field 1 26 c.origin.code
        ||| field 2 24 c.restarts ||| field 24 0 c.logical
    | 1 => field 24 0 c.source
    | 2 => field 6 0 c.target.val
    | _ => 0

/-- REPAIR: element k at indices 2k and 2k+1 (R33, R185). -/
def State.repairWord (s : State) (i : Nat) : MgmtWord :=
  if h : i / 2 < 64 then
    match s.tu.table[i / 2] with
    | none => 0
    | some e =>
      if i % 2 = 0 then bit 31 true ||| field 1 30 e.origin.code ||| field 4 24 e.moves ||| field 24 0 e.logical
      else bit 31 true ||| field 24 0 (s.slotAddress ⟨i / 2, h⟩)
  else 0

/-- SLOTS: the state of slot k at index k (R33, R185). -/
def State.slotsWord (s : State) (i : Nat) : MgmtWord :=
  if h : i < 64 then field 2 0 (s.tu.pool[i]).code else 0

/-- WATCH: element i, in age order, at indices 2i and 2i+1; the owner by reverse lookup at the load (R92, R185). A watched
word has an owner (R78); without one the owner's field would read 0 (log 21). -/
def State.watchWord (s : State) (i : Nat) : MgmtWord :=
  match s.watch[i / 2]? with
  | none => 0
  | some e =>
    if i % 2 = 0 then bit 31 true ||| field 3 28 e.state.code ||| field 4 24 e.count ||| field 24 0 e.physical
    else bit 31 true ||| field 24 0 ((s.owner e.physical).getD 0)

/-- RETQ: element i, head first (R92, R185). -/
def State.retqWord (s : State) (i : Nat) : MgmtWord :=
  match s.retq[i]? with
  | none => 0
  | some r => bit 31 true ||| field 1 30 r.origin.code ||| field 24 0 r.logical

/-- The logical field of a record: from its reverse lookup for a CE or UE kind, else from its offer (R118, R119). -/
def LogRecord.logical (r : LogRecord) : Option Nat :=
  match r.offer with
  | .ce _ _ _ _ | .ue _ _ _ => r.owner
  | .spareFail _ l _ | .migrationDone l _ _ | .migrationAbandoned l _ _ | .slotsExhausted l => some l
  | .scrubOverrun => none
  | .hostRefused a _ _ => some a.toNat

/-- LOG word 2: the fields of the kind (R186). -/
def Offer.word2 : Offer → MgmtWord
  | .ce _ p _ syn | .ue _ p syn => field 8 24 syn.toNat ||| field 24 0 p
  | .spareFail slot _ found => field 2 8 found.code ||| field 6 0 slot.val
  | .migrationDone _ old slot => field 6 24 slot.val ||| field 24 0 old
  | .migrationAbandoned _ cause slot => field 2 8 cause.code ||| field 6 0 slot.val
  | .slotsExhausted _ | .scrubOverrun => 0
  | .hostRefused _ why tag => field 2 8 (refusalCode (some why)).toNat ||| field 4 0 tag.toNat

/-- LOG word 3, bits 30 to 24: the bit position of a CE kind (R186). -/
def Offer.word3 : Offer → MgmtWord
  | .ce _ _ b _ => field 7 24 b
  | .ue _ _ _ | .spareFail _ _ _ | .migrationDone _ _ _ | .migrationAbandoned _ _ _ | .slotsExhausted _
  | .scrubOverrun | .hostRefused _ _ _ => 0

/-- One word of a record in the LOG window (R186). -/
def LogRecord.word (r : LogRecord) (i : Nat) : MgmtWord :=
  match i with
  | 0 =>
    bit 31 true ||| bit 30 r.offer.severe ||| bit 29 r.logical.isSome ||| field 4 24 r.offer.kindCode
      ||| field 8 16 r.repeats ||| r.seqNo.setWidth 32
  | 1 => r.time
  | 2 => r.offer.word2
  | 3 => r.offer.word3 ||| field 24 0 (r.logical.getD 0)
  | _ => 0

/-- LOG: the head record (R135). -/
def State.logWord (s : State) (i : Nat) : MgmtWord :=
  match s.log.records with
  | [] => 0
  | r :: _ => r.word i

/-- DIAG (R176, R185). -/
def State.diagWord (s : State) (i : Nat) : MgmtWord :=
  match i with
  | 0 => s.mgmt.diag.data.extractLsb' 0 32
  | 1 => s.mgmt.diag.data.extractLsb' 32 32
  | 2 => s.mgmt.diag.check.setWidth 32
  | 3 => field 2 8 s.mgmt.diag.found.code ||| s.mgmt.diag.syndrome.setWidth 32
  | _ => 0

/-- The word of a window at an index, from the state as it stands (R172); NONE supplies zero. -/
def State.windowWord (s : State) (w : Window) (i : Nat) : MgmtWord :=
  match w with
  | .none => 0
  | .config => s.configWord i
  | .status => s.statusWord i
  | .migration => s.migrationWord i
  | .repair => s.repairWord i
  | .slots => s.slotsWord i
  | .watch => s.watchWord i
  | .retq => s.retqWord i
  | .log => s.logWord i
  | .diag => s.diagWord i

/-- The pointer after a READ load or a WRITE store: one further, but never beyond the last index (R171, R173). -/
def State.nextPointer (s : State) : Nat :=
  if s.mgmt.pointer < s.mgmt.window.lastIndex then s.mgmt.pointer + 1 else s.mgmt.pointer

/-- s with a WRITE word not taken (R173, R174). -/
def State.refuseWrite (s : State) : State := { s with mgmt := { s.mgmt with accessError := true } }

/-- A word offered to CONFIG index i: taken with its effect when in range, else ACCESS_ERROR (R175, R61, R63). A TIMEBASE_DIV
write that meets a microsecond tick which is due comes first when it is sent first, and that increase does not happen:
DESIGN CHOICE, the spec does not say (log 26). -/
def State.writeConfig (s : State) (i : Nat) (v : MgmtWord) : State :=
  match i with
  | 0 => if v.toNat ≤ 15 then { s with config := { s.config with ceThreshold := v.toNat } } else s.refuseWrite
  | 1 =>
    if v.toNat ≤ 65535 then
      { s with
        config := { s.config with scrubInterval := v.toNat },
        scrub := { s.scrub with
          timer := match s.lifecycle with
            | .filling _ => none
            | .hold | .opened | .draining _ => startTimer v.toNat } }
    else s.refuseWrite
  | 2 =>
    if v.toNat ≤ 1 then { s with config := { s.config with readWriteback := v.toNat = 1 } } else s.refuseWrite
  | 3 =>
    if v.toNat ≤ 255 then { s with config := { s.config with alertMask := v.setWidth 8 } } else s.refuseWrite
  | 4 =>
    if 1 ≤ v.toNat ∧ v.toNat ≤ 255 then
      { s with
        config := { s.config with timebaseDiv := v.toNat },
        scrub := { s.scrub with periodCount := 0 } }
    else s.refuseWrite
  | 5 =>
    if 1 ≤ v.toNat ∧ v.toNat ≤ 15 then { s with config := { s.config with migrationFairness := v.toNat } }
    else s.refuseWrite
  | _ => s.refuseWrite

/-- A word offered to DIAG index i (R176): index 3 is read only. -/
def State.writeDiag (s : State) (i : Nat) (v : MgmtWord) : State :=
  match i with
  | 0 =>
    { s with mgmt := { s.mgmt with diag := { s.mgmt.diag with data := s.mgmt.diag.data.extractLsb' 32 32 ++ v } } }
  | 1 =>
    { s with mgmt := { s.mgmt with diag := { s.mgmt.diag with data := v ++ s.mgmt.diag.data.extractLsb' 0 32 } } }
  | 2 =>
    if v.toNat ≤ 255 then
      { s with mgmt := { s.mgmt with diag := { s.mgmt.diag with check := v.setWidth 8 } } }
    else s.refuseWrite
  | _ => s.refuseWrite

/-- The store of a word offered to the selected window at the pointer (R173, R174). -/
def State.storeWord (s : State) (v : MgmtWord) : State :=
  match s.mgmt.window with
  | .config => s.writeConfig s.mgmt.pointer v
  | .diag => s.writeDiag s.mgmt.pointer v
  | .none | .status | .migration | .repair | .slots | .watch | .retq | .log => s.refuseWrite

/-- s with the pointer moved past the word just loaded or offered. -/
def State.advancePointer (s : State) : State := { s with mgmt := { s.mgmt with pointer := s.nextPointer } }

/-- The end of the 32nd bit of a word of a WRITE frame (R173). Before it the frame has its kind byte and whole words. In
a frame of another kind the event cannot occur; after an abandoned frame it does nothing (logs 6, 10). -/
def State.takeWriteWord (s : State) (v : MgmtWord) : State :=
  let t := s.openFrame
  match t.mgmt.frame with
  | .running .fresh _ =>
    ({ t with mgmt := { t.mgmt with frame := .running .write 40 } } : State).storeWord v |>.advancePointer
  | .running .write n =>
    ({ t with mgmt := { t.mgmt with frame := .running .write (n + 32) } } : State).storeWord v |>.advancePointer
  | .idle => t
  | .running .read _ | .running .unknown _ => s

/-- The start of a word of a READ frame (R171): the holder goes to the shift path, the holder is loaded from the window
at the pointer, and the pointer advances. -/
def State.takeReadWord (s : State) : State :=
  let load (t : State) (n : Nat) : State :=
    ({ t with
      mgmt := { t.mgmt with
        frame := .running .read n,
        shiftPath := t.mgmt.holder,
        holder := t.windowWord t.mgmt.window t.mgmt.pointer } } : State).advancePointer
  let t := s.openFrame
  match t.mgmt.frame with
  | .running .fresh _ => load t 8
  | .running .read n => load t (n + 32)
  | .idle => t
  | .running .write _ | .running .unknown _ => s

/-- The word on MISO (R167, R168): high impedance (none) while SSN is high; in a READ frame the shift path, else zeros.
After a rise of RESET_N with SSN low no frame is in progress until SSN falls again, and the zeros there are a DESIGN
CHOICE (log 27). -/
def State.misoWord (s : State) : Option MgmtWord :=
  if s.pins.ssnLow then
    match s.mgmt.frame with
    | .running .read _ => some s.mgmt.shiftPath
    | .idle | .running .fresh _ | .running .write _ | .running .unknown _ => some 0
  else none

end Sys2Proof.Machine
end

