-- ==== Sys2Proof/Machine/Management.lean ====
section
/-! DEFINITION. Frames, windows and unknown codes of the Management Port (10). -/

namespace Sys2Proof.Machine

/-- FRAME_START (R168): SSN falls. -/
def execFrameStart (s : State) : Result := .next s.openFrame

/-- FRAME_END (R168, R171, R173, R178): SSN rises; a partial word or an incomplete SELECT or COMMAND is discarded. -/
def execFrameEnd (s : State) : Result := .next s.closeFrame

/-- UNKNOWN_FRAME_KIND (R167, R174): ACCESS_ERROR, and the rest of the frame is ignored. A kind byte that names a kind is
not this event (log 6). -/
def execUnknownFrameKind (kind : BitVec 8) (s : State) : Result :=
  if frameKindKnown kind then .next s
  else
    let t := s.openFrame
    match t.mgmt.frame with
    | .running .fresh _ =>
      .next { t with mgmt := { t.mgmt with frame := .running .unknown 8, accessError := true } }
    | .idle => .next t
    | .running .read _ | .running .write _ | .running .unknown _ => .next s

/-- SELECT (R170): window and index, clamped; an unknown code selects NONE and sets ACCESS_ERROR. -/
def execSelect (window : BitVec 8) (index : BitVec 16) (s : State) : Result :=
  .next (s.atFrameEnd fun t =>
    match windowOfCode window with
    | some w => { t with mgmt := { t.mgmt with window := w, pointer := min index.toNat w.lastIndex } }
    | none => { t with mgmt := { t.mgmt with window := .none, pointer := 0, accessError := true } })

/-- READ_WORD (R171). -/
def execReadWord (s : State) : Result := .next s.takeReadWord

/-- WRITE_WORD (R173). -/
def execWriteWord (value : MgmtWord) (s : State) : Result := .next (s.takeWriteWord value)

/-- A WRITE word at one CONFIG word; with another word at the pointer it is not this event (logs 6, 18). -/
def State.writeAtConfig (s : State) (i : Nat) (value : MgmtWord) : State :=
  if s.mgmt.window = .config ∧ s.mgmt.pointer = i then s.takeWriteWord value else s

/-- SCRUB_INTERVAL_WRITE (R63). -/
def execScrubIntervalWrite (value : MgmtWord) (s : State) : Result := .next (s.writeAtConfig 1 value)

/-- TIMEBASE_DIV_WRITE (R61). -/
def execTimebaseDivWrite (value : MgmtWord) (s : State) : Result := .next (s.writeAtConfig 4 value)

/-- ALERT_MASK_WRITE (R130). -/
def execAlertMaskWrite (value : MgmtWord) (s : State) : Result := .next (s.writeAtConfig 3 value)

/-- UNKNOWN_COMMAND (R179): result UNKNOWN with the code received. A known code is not this event (log 6). -/
def execUnknownCommand (code : BitVec 8) (s : State) : Result :=
  if commandCodes.contains code then .next s
  else .next (s.takeCommand code fun t => t.answer .unknown)

end Sys2Proof.Machine
end

