-- ==== Sys2Proof/Machine/Scrub.lean ====
section
/-! DEFINITION. The timebase, the interval timer and the scrub step (R60 to R71). -/

namespace Sys2Proof.Machine

/-- REFERENCE_CLOCK_PERIOD (R60): the period count rises by 1 until it reaches TIMEBASE_DIV (log 12). -/
def execReferenceClockPeriod (s : State) : Result :=
  whileRunning s
    { s with scrub := { s.scrub with periodCount := min (s.scrub.periodCount + 1) s.config.timebaseDiv } }

/-- The interval timer one microsecond later (R62): a running timer's elapsed count rises until it reaches
SCRUB_INTERVAL (log 12). -/
def timerTick (interval : Nat) : Option Nat → Option Nat
  | some e => some (min (e + 1) interval)
  | none => none

/-- MICROSECOND_TICK (R60, R62): the period count has reached TIMEBASE_DIV, so the microsecond counter increases, the
period count starts again from 0, and the interval timer advances. -/
def execMicrosecondTick (s : State) : Result :=
  if s.config.timebaseDiv ≤ s.scrub.periodCount then
    whileRunning s
      { s with
        scrub := { s.scrub with
          periodCount := 0, microseconds := s.scrub.microseconds + 1,
          timer := timerTick s.config.scrubInterval s.scrub.timer } }
  else .next s

/-- INTERVAL_EXPIRY (R62, R64): the elapsed count has reached SCRUB_INTERVAL and starts again from 0; the credit rises,
or at the cap a SCRUB_OVERRUN is offered. -/
def execIntervalExpiry (s : State) : Result :=
  match s.scrub.timer with
  | none => .next s
  | some e =>
    if s.config.scrubInterval ≤ e then
      if s.scrub.credit < Config.creditMax then
        whileRunning s { s with scrub := { s.scrub with timer := some 0, credit := s.scrub.credit + 1 } }
      else
        whileRunning s (({ s with scrub := { s.scrub with timer := some 0 } } : State).offer .scrubOverrun)
    else .next s

/-- The findings of a scrub step at its target p (R69): a CORRECTABLE word is written back, reported and offered; an
UNCORRECTABLE one is offered. -/
def State.scrubAt (s : State) (p : Nat) : State :=
  let d := s.decodeAt p
  match d.found with
  | .clean => s
  | .correctable =>
    ((s.store p (encodeWord d.output)).report .scrubStep p).offer
      (.ce .scrub p (d.bitPosition.getD 0) d.syndrome)
  | .uncorrectable _ => s.offer (.ue .scrub p d.syndrome)

/-- SCRUB_DECODE (R69): the running step reads and decodes its target, once. -/
def execScrubDecode (s : State) : Result :=
  if s.seq.tenure = .scrub then
    match s.scrub.step with
    | none => .next s
    | some st =>
      if st.decoded then .next s
      else
        atArray s st.target
          (whileRunning s
            (({ s with scrub := { s.scrub with step := some { st with decoded := true } } } : State).scrubAt
              st.target))
  else .next s

/-- SCRUB_STEP_COMPLETION (R65, R71): the credit loses one unit and the cursor moves to the word after the target, unless
a SCRUB_SEEK or SOFT_RESET was taken during the step. -/
def execScrubStepCompletion (s : State) : Result :=
  if s.seq.tenure = .scrub then
    match s.scrub.step with
    | none => .next s
    | some st =>
      if st.decoded then
        let c := if st.cursorMoved then (s.scrub.cursor, s.scrub.passes)
          else cursorNext s.W (st.target, s.scrub.passes)
        whileRunning s
          { s with
            scrub := { s.scrub with
              credit := s.scrub.credit - 1, cursor := c.1, passes := c.2, step := none },
            seq := { s.seq with tenure := .none } }
      else .next s
  else .next s

end Sys2Proof.Machine
end

