-- ==== Sys2Proof/Machine/TableCommands.lean ====
section
/-! DEFINITION. The table commands MAP, UNMAP, SLOT_FREE and SLOT_BAD (R29 to R32, R89). -/

namespace Sys2Proof.Machine

/-- A slot number as an argument word gives it: none when 64 or more (R29). -/
def slotOfWord (w : MgmtWord) : Option (Fin 64) := if h : w.toNat < 64 then some ⟨w.toNat, h⟩ else none

/-- MAP's tests and change (R30, R89). -/
def State.takeMap (s : State) (l : Nat) (slot : Option (Fin 64)) : State :=
  match slot with
  | none => s.answer .range
  | some k =>
    if s.H ≤ l then s.answer .range
    else if (s.mappedSlot l).isSome then s.answer .mapped
    else if !s.slotIsFree k then s.answer .slotState
    else if s.migrating l || s.queuedForRetirement l then s.answer .inMigration
    else ((((s.setEntry k (some ⟨l, .loaded, 0⟩)).setSlot k .inUse).dropWatch l).answer .ok)

/-- UNMAP's tests and change (R31, R89, R24). -/
def State.takeUnmap (s : State) (l : Nat) : State :=
  if s.H ≤ l then s.answer .range
  else
    match s.mappedSlot l with
    | none => s.answer .unmapped
    | some k =>
      if s.migrating l then s.answer .inMigration
      else ((((s.setEntry k none).dropWatch (s.slotAddress k)).freeSlot k).answer .ok)

/-- SLOT_FREE's tests and change (R32, R24). -/
def State.takeSlotFree (s : State) (slot : Option (Fin 64)) : State :=
  match slot with
  | none => s.answer .range
  | some k => if s.tu.pool[k] = .bad then (s.freeSlot k).answer .ok else s.answer .slotState

/-- SLOT_BAD's tests and change (R32). -/
def State.takeSlotBad (s : State) (slot : Option (Fin 64)) : State :=
  match slot with
  | none => s.answer .range
  | some k => if s.slotIsFree k then (s.setSlot k .bad).answer .ok else s.answer .slotState

/-- MAP L, S (R30). -/
def execMap (l slot : MgmtWord) (s : State) : Result :=
  .next (s.takeCommand codeMap fun t => t.takeMap l.toNat (slotOfWord slot))

/-- UNMAP L (R31). -/
def execUnmap (l : MgmtWord) (s : State) : Result :=
  .next (s.takeCommand codeUnmap fun t => t.takeUnmap l.toNat)

/-- SLOT_FREE S (R32). -/
def execSlotFree (slot : MgmtWord) (s : State) : Result :=
  .next (s.takeCommand codeSlotFree fun t => t.takeSlotFree (slotOfWord slot))

/-- SLOT_BAD S (R32). -/
def execSlotBad (slot : MgmtWord) (s : State) : Result :=
  .next (s.takeCommand codeSlotBad fun t => t.takeSlotBad (slotOfWord slot))

end Sys2Proof.Machine
end

