-- ==== Sys2Proof/Machine/Dispatch.lean ====
section
/-! DEFINITION. exec: the meaning of every command, one arm each. -/

namespace Sys2Proof.Machine

def exec (i : Instr) (s : State) : Host.Outcome State Fault Refusal :=
  match i with
  | .resetNLow midWrite => Sys2Proof.Machine.execResetNLow midWrite s
  | .resetNRise a preserve => Sys2Proof.Machine.execResetNRise a preserve s
  | .requestTaken header b0 b1 b2 b3 => Sys2Proof.Machine.execRequestTaken header b0 b1 b2 b3 s
  | .heldRequestTaken => Sys2Proof.Machine.execHeldRequestTaken s
  | .responseTaken => Sys2Proof.Machine.execResponseTaken s
  | .grantDecision => Sys2Proof.Machine.execGrantDecision s
  | .hostReadBeat => Sys2Proof.Machine.execHostReadBeat s
  | .hostWriteBeat => Sys2Proof.Machine.execHostWriteBeat s
  | .hostMergeBeat => Sys2Proof.Machine.execHostMergeBeat s
  | .hostTenureCompletion => Sys2Proof.Machine.execHostTenureCompletion s
  | .recordOffer src => Sys2Proof.Machine.execRecordOffer src s
  | .ceReport src => Sys2Proof.Machine.execCeReport src s
  | .microsecondTick => Sys2Proof.Machine.execMicrosecondTick s
  | .intervalExpiry => Sys2Proof.Machine.execIntervalExpiry s
  | .scrubDecode => Sys2Proof.Machine.execScrubDecode s
  | .scrubStepCompletion => Sys2Proof.Machine.execScrubStepCompletion s
  | .migrationStart => Sys2Proof.Machine.execMigrationStart s
  | .copyReadCompletion => Sys2Proof.Machine.execCopyReadCompletion s
  | .copyWriteCompletion => Sys2Proof.Machine.execCopyWriteCompletion s
  | .verifyCompletion => Sys2Proof.Machine.execVerifyCompletion s
  | .fillWordCompletion => Sys2Proof.Machine.execFillWordCompletion s
  | .peekCompletion => Sys2Proof.Machine.execPeekCompletion s
  | .pokeCompletion => Sys2Proof.Machine.execPokeCompletion s
  | .map l slot => Sys2Proof.Machine.execMap l slot s
  | .unmap l => Sys2Proof.Machine.execUnmap l s
  | .slotFree slot => Sys2Proof.Machine.execSlotFree slot s
  | .slotBad slot => Sys2Proof.Machine.execSlotBad slot s
  | .peek p => Sys2Proof.Machine.execPeek p s
  | .poke p => Sys2Proof.Machine.execPoke p s
  | .scrubSeek p => Sys2Proof.Machine.execScrubSeek p s
  | .retire l => Sys2Proof.Machine.execRetire l s
  | .clearWatch => Sys2Proof.Machine.execClearWatch s
  | .cancelMigration => Sys2Proof.Machine.execCancelMigration s
  | .popLog => Sys2Proof.Machine.execPopLog s
  | .clearLog => Sys2Proof.Machine.execClearLog s
  | .clearSummary => Sys2Proof.Machine.execClearSummary s
  | .openArray => Sys2Proof.Machine.execOpen s
  | .closeArray => Sys2Proof.Machine.execClose s
  | .fillArray => Sys2Proof.Machine.execFill s
  | .softReset => Sys2Proof.Machine.execSoftReset s
  | .unknownCommand code => Sys2Proof.Machine.execUnknownCommand code s
  | .select window index => Sys2Proof.Machine.execSelect window index s
  | .readWord => Sys2Proof.Machine.execReadWord s
  | .writeWord value => Sys2Proof.Machine.execWriteWord value s
  | .scrubIntervalWrite value => Sys2Proof.Machine.execScrubIntervalWrite value s
  | .timebaseDivWrite value => Sys2Proof.Machine.execTimebaseDivWrite value s
  | .alertMaskWrite value => Sys2Proof.Machine.execAlertMaskWrite value s
  | .unknownFrameKind kind => Sys2Proof.Machine.execUnknownFrameKind kind s
  | .frameStart => Sys2Proof.Machine.execFrameStart s
  | .frameEnd => Sys2Proof.Machine.execFrameEnd s
  | .referenceClockPeriod => Sys2Proof.Machine.execReferenceClockPeriod s

end Sys2Proof.Machine
end

