-- ==== Sys2Proof/Safety.lean ====
section
/-! DEFINITION. The terms in which statements about the machine are made: when a frame or command is accepted, which
array word a command stores to, the invariants of each block, and what a safe run is. -/

namespace Sys2Proof.Machine

/-! ## Frames and commands -/

/-- A complete SELECT or COMMAND frame acts at its end (R168): RESET_N is high, and the frame is either not yet begun
(the row implies its start, log 10) or begun with no kind known. -/
def State.frameAccepts (s : State) : Bool :=
  !s.pins.resetLow &&
    (!s.pins.ssnLow ||
      match s.mgmt.frame with
      | .running .fresh _ => true
      | .running .read _ | .running .write _ | .running .unknown _ | .idle => false)

/-- A complete command is taken, not discarded (R179). -/
abbrev State.CommandReady (s : State) : Prop := s.frameAccepts = true ∧ s.mgmt.busy = false

/-- s after the rise of SSN that ends a frame (R168). -/
def State.frameEnded (s : State) : State :=
  { s with pins := { s.pins with ssnLow := false }, mgmt := { s.mgmt with frame := .idle } }

/-- s after the part of a take that every command shares (R179): the frame has ended, the last command code is set, LOST
and ACCESS_ERROR are clear. -/
def State.taken (s : State) (code : BitVec 8) : State :=
  { s with
    pins := { s.pins with ssnLow := false },
    mgmt := { s.mgmt with frame := .idle, lastCode := code, lost := false, accessError := false } }

/-- The code of the command that a COMMAND row carries (R184); none for every other row. -/
def commandCode : Instr → Option (BitVec 8)
  | .map _ _ => some codeMap
  | .unmap _ => some codeUnmap
  | .slotFree _ => some codeSlotFree
  | .slotBad _ => some codeSlotBad
  | .peek _ => some codePeek
  | .poke _ => some codePoke
  | .scrubSeek _ => some codeScrubSeek
  | .retire _ => some codeRetire
  | .clearWatch => some codeClearWatch
  | .cancelMigration => some codeCancelMigration
  | .popLog => some codePopLog
  | .clearLog => some codeClearLog
  | .clearSummary => some codeClearSummary
  | .openArray => some codeOpen
  | .closeArray => some codeClose
  | .fillArray => some codeFill
  | .softReset => some codeSoftReset
  | .unknownCommand code => if commandCodes.contains code then none else some code
  | .resetNLow _ | .resetNRise _ _ | .requestTaken _ _ _ _ _ | .heldRequestTaken | .responseTaken
  | .grantDecision | .hostReadBeat | .hostWriteBeat | .hostMergeBeat | .hostTenureCompletion
  | .recordOffer _ | .ceReport _ | .microsecondTick | .intervalExpiry | .scrubDecode
  | .scrubStepCompletion | .migrationStart | .copyReadCompletion | .copyWriteCompletion
  | .verifyCompletion | .fillWordCompletion | .peekCompletion | .pokeCompletion | .select _ _
  | .readWord | .writeWord _ | .scrubIntervalWrite _ | .timebaseDivWrite _ | .alertMaskWrite _
  | .unknownFrameKind _ | .frameStart | .frameEnd | .referenceClockPeriod => none

/-! ## Stored bits, the offer of a DUE entry -/

/-- An array word with one stored bit inverted: bits 0 to 63 are the data bits, 64 + j is check bit cj (R1, R6). -/
def changeBit (w : ArrayWord) (b : Nat) : ArrayWord :=
  if b < 64 then ⟨w.data ^^^ BitVec.twoPow 64 b, w.check⟩ else ⟨w.data, w.check ^^^ BitVec.twoPow 8 (b - 64)⟩

/-- What becomes of an entry with logical owner l that is offered to the Retirement Queue, and of the queue (R84). -/
def offerResult (s : State) (l : Nat) : WatchState × List RetireRequest :=
  if s.migrating l then (.migrating, s.retq)
  else if s.queuedForRetirement l then (.queued, s.retq)
  else if s.retq.length < 4 then (.queued, s.retq ++ [⟨l, .watch⟩])
  else (.due, s.retq)

/-- The Watch List, in age order, and the Retirement Queue once each entry that `offered` picks has been offered by R84,
with the queue as the offers of the older entries left it (R85, R88). -/
def offerInOrder (s : State) (offered : List RetireRequest → WatchEntry → Bool) :
    List WatchEntry → List RetireRequest → List WatchEntry × List RetireRequest
  | [], queue => ([], queue)
  | e :: younger, queue =>
    match s.owner e.physical, offered queue e with
    | some l, true =>
      let o := offerResult { s with retq := queue } l
      let r := offerInOrder s offered younger o.2
      ({ e with state := o.1 } :: r.1, r.2)
    | some _, false | none, _ =>
      let r := offerInOrder s offered younger queue
      (e :: r.1, r.2)

/-- The four bytes of a word as a frame carries them, most significant first (R167). -/
def wordBytes (w : MgmtWord) : List (BitVec 8) :=
  [w.extractLsb' 24 8, w.extractLsb' 16 8, w.extractLsb' 8 8, w.extractLsb' 0 8]

/-! ## The array word a command stores to -/

/-- The one array word that a command may store to in a state (R36, R45, R58): the word a reset cuts off, the word of
the next host beat, the target of a scrub step, of a COPY_WRITE, of a fill word or of a POKE. No other command writes
the array. -/
def storeAddress (s : State) : Instr → Option Nat
  | .resetNLow midWrite => s.cutWord midWrite
  | .resetNRise _ _ => s.cutWord false
  | .hostReadBeat => s.hostTenurePlace.map fun p => s.forward (p.request.beatAddress p.results.length)
  | .hostWriteBeat | .hostMergeBeat =>
    s.hostTenurePlace.map fun p => s.forward (p.request.beatAddress p.afterSkips.length)
  | .scrubDecode => s.scrub.step.map (·.target)
  | .copyWriteCompletion =>
    match s.seq.tenure with
    | .migration .copyWrite p _ _ => some p
    | .migration .copyRead _ _ _ | .migration .verify _ _ _ | .none | .host | .scrub | .peek _ | .poke _ _
    | .fill _ => none
  | .fillWordCompletion =>
    match s.seq.tenure with
    | .fill p => some p
    | .migration _ _ _ _ | .none | .host | .scrub | .peek _ | .poke _ _ => none
  | .pokeCompletion =>
    match s.seq.tenure with
    | .poke p _ => some p
    | .migration _ _ _ _ | .none | .host | .scrub | .peek _ | .fill _ => none
  | .requestTaken _ _ _ _ _ | .heldRequestTaken | .responseTaken | .grantDecision | .hostTenureCompletion
  | .recordOffer _ | .ceReport _ | .microsecondTick | .intervalExpiry | .scrubStepCompletion | .migrationStart
  | .copyReadCompletion | .verifyCompletion | .peekCompletion | .map _ _ | .unmap _ | .slotFree _ | .slotBad _
  | .peek _ | .poke _ | .scrubSeek _ | .retire _ | .clearWatch | .cancelMigration | .popLog | .clearLog
  | .clearSummary | .openArray | .closeArray | .fillArray | .softReset | .unknownCommand _ | .select _ _
  | .readWord | .writeWord _ | .scrubIntervalWrite _ | .timebaseDivWrite _ | .alertMaskWrite _
  | .unknownFrameKind _ | .frameStart | .frameEnd | .referenceClockPeriod => none

/-! ## Invariants, block by block -/

/-- The physical address that a tenure of a block that addresses physical words accesses (R53, R54, R95). -/
def Tenure.address : Tenure → Option Nat
  | .migration _ p _ _ | .peek p | .poke p _ | .fill p => some p
  | .none | .host | .scrub => Option.none

/-- The physical address of a running fill tenure (R37). -/
def Tenure.fillAddress : Tenure → Option Nat
  | .fill p => some p
  | .none | .host | .migration _ _ _ _ | .scrub | .peek _ | .poke _ _ => Option.none

/-- Phase, address and buffer of a running tenure of the active migration (R37). -/
def Tenure.ofActive : Tenure → Option (MigrationPhase × Nat × DataWord)
  | .migration ph p d true => some (ph, p, d)
  | .migration _ _ _ false | .none | .host | .scrub | .peek _ | .poke _ _ | .fill _ => Option.none

/-- The tenure is a PEEK's or a POKE's. -/
def Tenure.isDiag : Tenure → Bool
  | .peek _ | .poke _ _ => true
  | .none | .host | .migration _ _ _ _ | .scrub | .fill _ => false

/-- The physical address of a PEEK or POKE taken and not yet granted. -/
def DiagClaim.address : DiagClaim → Nat
  | .peek p | .poke p => p

/-- The lifecycle state is FILLING. -/
def Lifecycle.isFilling : Lifecycle → Bool
  | .filling _ => true
  | .hold | .opened | .draining _ => false

/-- The lifecycle state is DRAINING. -/
def Lifecycle.isDraining : Lifecycle → Bool
  | .draining _ => true
  | .filling _ | .hold | .opened => false

/-- The array list has its canonical form. -/
abbrev State.ArrayCanonical (s : State) : Prop := arrayWf s.array = true

/-- The config words lie in their ranges (R175), the period count and a running timer stay within them (R60, R62, log 12),
and the timer runs exactly while SCRUB_INTERVAL is nonzero and the state is not FILLING (R62). -/
abbrev State.TimebaseSound (s : State) : Prop :=
  s.config.ceThreshold ≤ 15 ∧ s.config.scrubInterval ≤ 65535 ∧
  1 ≤ s.config.timebaseDiv ∧ s.config.timebaseDiv ≤ 255 ∧
  1 ≤ s.config.migrationFairness ∧ s.config.migrationFairness ≤ 15 ∧
  s.scrub.periodCount ≤ s.config.timebaseDiv ∧
  (∀ e ∈ s.scrub.timer, e ≤ s.config.scrubInterval) ∧
  (s.scrub.timer.isSome = true ↔ s.config.scrubInterval ≠ 0 ∧ s.lifecycle.isFilling = false)

/-- Scrub credit at most 4, host streak at most 15, cursor and step target below W (R64, R43, R67). -/
abbrev State.ScrubberSound (s : State) : Prop :=
  s.scrub.credit ≤ 4 ∧ s.seq.streak ≤ 15 ∧ s.scrub.cursor < s.W ∧
  (∀ st ∈ s.scrub.step, st.target < s.W) ∧
  (s.seq.tenure = .scrub ↔ s.scrub.step.isSome = true ∧ s.pins.resetLow = false)

/-- The pool agrees with the table and with the migration (R19, R21, R22): IN_USE slots are those an entry names, the
RESERVED slot is the active migration's target, no two entries have one logical address, and moves are at most 15. -/
abbrev State.PoolAgrees (s : State) : Prop :=
  (∀ k : Fin 64, s.tu.pool[k] = .inUse ↔ s.tu.table[k].isSome = true) ∧
  (∀ k : Fin 64, s.tu.pool[k] = .reserved ↔ s.migration.map (·.target) = some k) ∧
  (∀ j k : Fin 64, ∀ d ∈ s.tu.table[j], ∀ e ∈ s.tu.table[k], d.logical = e.logical → j = k) ∧
  (∀ k : Fin 64, ∀ e ∈ s.tu.table[k], e.moves ≤ 15)

/-- The Error Log's bounds (R117, R126), the tie between DROPPED and the dropped count (R128), and the newest record's
number, the one before the next (R120). -/
abbrev State.LogSound (s : State) : Prop :=
  s.log.records.length ≤ 16 ∧
  (∀ r ∈ s.log.records, 1 ≤ r.repeats ∧ r.repeats ≤ 255) ∧
  s.log.dropped ≤ 255 ∧
  (s.log.flags.getLsbD flagDropped = true ↔ s.log.dropped ≠ 0) ∧
  (∀ r ∈ s.log.records.getLast?, r.seqNo + 1 = s.log.nextSeq)

/-- The Retirement Queue holds at most 4 requests, no two for one address, none for the active migration's (R83). -/
abbrev State.RetirementSound (s : State) : Prop :=
  s.retq.length ≤ 4 ∧ (s.retq.map (·.logical)).Nodup ∧
  ∀ c ∈ s.migration, c.logical ∉ s.retq.map (·.logical)

/-- The Watch List holds at most 8 entries, with distinct physical addresses and counts from 1 to 15 (R78). -/
abbrev State.WatchSound (s : State) : Prop :=
  s.watch.length ≤ 8 ∧ (s.watch.map (·.physical)).Nodup ∧
  ∀ e ∈ s.watch, 1 ≤ e.count ∧ e.count ≤ 15

/-- A place of the queue in each of its states (R141, R143, R145): a refused place keeps its REFUSED results; a sound one lies
below H, has as many beats as its length for a WRITE and none for a READ, and has no results while WAITING, at most
its length while IN_TENURE, and all of them when DONE. -/
def Place.sound (h : Nat) (p : Place) : Bool :=
  match p.refusal with
  | some _ => p.state != .inTenure && p.results = refusedResults p.request
  | none =>
    decide (p.request.address.toNat + p.request.beatCount ≤ h) &&
    (match p.request.kind with
      | .read => p.request.beats.isEmpty
      | .write => p.request.beats.length = p.request.beatCount) &&
    (match p.state with
      | .waiting => p.results.isEmpty
      | .inTenure => p.results.length ≤ p.request.beatCount
      | .done => p.results.length = p.request.beatCount)

/-- The order of the places (R145): DONE places, then a first place that is not DONE and is sound, WAITING or IN_TENURE,
then WAITING places. -/
def queueOrdered (queue : List Place) : Bool :=
  match queue.dropWhile (·.state = .done) with
  | [] => true
  | p :: rest => p.refusal.isNone && rest.all (·.state = .waiting)

/-- The request queue (R141, R145, R150): at most 8 places, each sound, in order; a place is IN_TENURE exactly while a host
tenure runs; the queue is empty in HOLD and FILLING. -/
abbrev State.QueueSound (s : State) : Prop :=
  s.queue.length ≤ 8 ∧ s.queue.all (Place.sound s.H) = true ∧ queueOrdered s.queue = true ∧
  (s.seq.tenure = .host ↔ s.placeInTenure.isSome = true) ∧
  (s.lifecycle = .hold ∨ s.lifecycle.isFilling = true → s.queue = [])

/-- The active migration (R94, R107, R95): restarts at most 3; a pinned migration has restarted three times, is not dirty
and no WRITE in tenure names its word; past COPY_READ there is a buffer; a running tenure of it is the tenure of its
phase at the address of its phase, storing its buffer; and no tenure is its own without it. -/
abbrev State.MigrationSound (s : State) : Prop :=
  (∀ c ∈ s.migration,
    c.restarts ≤ 3 ∧
    (c.pinned = true → c.restarts = 3 ∧ c.dirty = false ∧
      ∀ p ∈ s.placeInTenure, p.request.kind = .write → p.request.names c.logical = false) ∧
    (c.phase ≠ .copyRead → c.buffer.isSome = true)) ∧
  ∀ x ∈ s.seq.tenure.ofActive,
    ∃ c ∈ s.migration, c.phase = x.1 ∧ s.phaseAddress c = x.2.1 ∧ (x.1 = .copyWrite → c.buffer = some x.2.2)

/-- A PEEK or POKE is under way: taken, or granted (R54). -/
def State.diagActive (s : State) : Bool := s.mgmt.diagClaim.isSome || s.seq.tenure.isDiag

/-- The lifecycle and the command state (R40, R73, R150, R163, R179): DRAINING and a fill that returns to HOLD are
BUSY; a PEEK or POKE under way is BUSY, in HOLD or OPEN; BUSY in HOLD or OPEN means a PEEK or POKE under way, unless
RESET_N is low; a PEEK or POKE is not both waiting and granted; in FILLING no credit, no timer, no migration; a fill
tenure runs only in FILLING, at the fill cursor. -/
abbrev State.LifecycleSound (s : State) : Prop :=
  (s.lifecycle.isDraining = true → s.mgmt.busy = true) ∧
  (s.lifecycle = .filling .hold → s.mgmt.busy = true) ∧
  (s.diagActive = true → s.mgmt.busy = true ∧ (s.lifecycle = .hold ∨ s.lifecycle = .opened)) ∧
  (s.mgmt.busy = true → s.lifecycle = .hold ∨ s.lifecycle = .opened → s.pins.resetLow = false → s.diagActive = true) ∧
  (s.mgmt.diagClaim.isSome = true → s.seq.tenure.isDiag = false) ∧
  (s.lifecycle.isFilling = true → s.scrub.credit = 0 ∧ s.scrub.timer = none ∧ s.migration = none) ∧
  (∀ p ∈ s.seq.tenure.fillAddress, s.lifecycle.isFilling = true ∧ p = s.fillCursor ∧ p < s.W) ∧
  s.fillCursor ≤ s.W

/-- The pointer stands within the selected window (R169); no frame runs while SSN is high or RESET_N is low (R168). -/
abbrev State.PortSound (s : State) : Prop :=
  s.mgmt.pointer ≤ s.mgmt.window.lastIndex ∧
  (s.pins.ssnLow = false → s.mgmt.frame = .idle) ∧
  (s.pins.resetLow = true → s.mgmt.frame = .idle)

/-- While RESET_N is low nothing is under way (R58, R152, R168). -/
abbrev State.ResetQuiet (s : State) : Prop :=
  s.pins.resetLow = true →
    s.seq.tenure = .none ∧ s.queue = [] ∧ s.offers = [] ∧ s.reports = [] ∧ s.mgmt.frame = .idle ∧
    s.mgmt.diagClaim = none

/-- Every logical address held is one, below H (R17, R22, R83, R94). -/
abbrev State.LogicalsExist (s : State) : Prop :=
  (∀ k : Fin 64, ∀ e ∈ s.tu.table[k], e.logical < s.H) ∧
  (∀ r ∈ s.retq, r.logical < s.H) ∧
  (∀ c ∈ s.migration, c.logical < s.H)

/-- Every physical address that a tenure accesses or will access exists, below W (R16). -/
abbrev State.AddressesExist (s : State) : Prop :=
  (∀ c ∈ s.migration, c.source < s.W) ∧
  (∀ p ∈ s.seq.tenure.address, p < s.W) ∧
  (∀ d ∈ s.mgmt.diagClaim, d.address < s.W) ∧
  s.scrub.cursor < s.W ∧ (∀ st ∈ s.scrub.step, st.target < s.W)

/-- What keeps every array access at an address that exists. -/
abbrev State.AccessSound (s : State) : Prop := s.QueueSound ∧ s.LogicalsExist ∧ s.AddressesExist

/-- The Watch List agrees with the table, the Retirement Queue and the migration (R78, R79, R83 to R87): every watched
word has an owner; a QUEUED entry's owner is held in the queue; a MIGRATING entry is at the active migration's source; a DUE
entry waits for a full queue; and the source is where the migration's word lives. -/
abbrev State.WatchAgrees (s : State) : Prop :=
  s.PoolAgrees ∧ s.LogicalsExist ∧ s.RetirementSound ∧ s.WatchSound ∧
  (∀ c ∈ s.migration, c.source = s.forward c.logical) ∧
  (∀ e ∈ s.watch,
    (s.owner e.physical).isSome = true ∧
    (e.state = .queued → ∃ l ∈ s.owner e.physical, l ∈ s.retq.map (·.logical)) ∧
    (e.state = .migrating → s.migration.map (·.source) = some e.physical) ∧
    (e.state = .due → s.retq.length = 4))

/-! ## Safe runs -/

/-- A run of n steps that never stops: the run is safe. -/
def SafeRun : Nat → State → Prop
  | 0, _ => True
  | n + 1, s => ∃ t, step s = .next t ∧ SafeRun n t

end Sys2Proof.Machine
end

