-- ==== Sys2Proof/Certificates/Slice0/Obligations.lean ====
section
/-! DEFINITION. The statements for the provers. -/

open Sys2Proof Sys2Proof.Machine

/-! ## The machine's step and its resets -/

/-- A step runs the command at the front of the queue on the state with the queue's rest; with no command waiting the block
idles (the model's choice, log 7). -/
def Obligations.StepRunsFrontCommand : Prop :=
  (∀ (c : Instr) (rest : List Instr) (s : State),
    step { s with pending := c :: rest } = exec c { s with pending := rest }) ∧
  (∀ s : State, s.pending = [] → step s = .next s)

/-- A command's effect is on everything but the queue of commands (the model's form, log 7). -/
def Obligations.ExecKeepsPendingCommands : Prop :=
  ∀ (c : Instr) (s t : State), exec c s = .next t → t.pending = s.pending

/-- RESET_N driven low (R58, R75, R112, R136, R152, R165, R168): the tenure, the host queue, the hand-offs under way and the frame
go, the word being written holds the free value (log 4), and every other part of State stays until the rise (log 11).
That word is the one of a COPY_WRITE, a POKE or a fill word; there is none in a COPY_READ, a VERIFY, a PEEK or with the
port free; in a scrub step it can only be that of a write-back not yet made, in a host tenure only that of the next beat, the first
neither performed nor skipped: a write beat, or the write-back of a CORRECTABLE read beat; and in both only when the
row says that the cut fell in the write (log 5). -/
def Obligations.ResetLowCutsOffWork : Prop :=
  (∀ (s : State) (midWrite : Bool),
      (s.pins.resetLow = true → exec (.resetNLow midWrite) s = .next s) ∧
      (s.pins.resetLow = false →
        ∃ t, exec (.resetNLow midWrite) s = .next t ∧
          t = { s with
            pins := { s.pins with resetLow := true },
            array := t.array, freeCount := t.freeCount,
            seq := { s.seq with tenure := .none }, queue := [], offers := [], reports := [],
            mgmt := { s.mgmt with frame := .idle, diagClaim := none } } ∧
          (s.cutWord midWrite = none → t.array = s.array ∧ t.freeCount = s.freeCount) ∧
          (∀ p, s.cutWord midWrite = some p →
            t.array = arrayWrite s.array p (Config.undefinedWord s.freeCount) ∧ t.freeCount = s.freeCount + 1) ∧
          t.alert = false ∧ t.requestTake = false ∧ t.responseValid = false)) ∧
  (∀ (s : State) (midWrite : Bool),
      (∀ p d live, s.seq.tenure = .migration .copyWrite p d live → s.cutWord midWrite = some p) ∧
      (∀ p w, s.seq.tenure = .poke p w → s.cutWord midWrite = some p) ∧
      (∀ p, s.seq.tenure = .fill p → s.cutWord midWrite = some p) ∧
      (∀ p d live, s.seq.tenure = .migration .copyRead p d live → s.cutWord midWrite = none) ∧
      (∀ p d live, s.seq.tenure = .migration .verify p d live → s.cutWord midWrite = none) ∧
      (∀ p, s.seq.tenure = .peek p → s.cutWord midWrite = none) ∧
      (s.seq.tenure = .none → s.cutWord midWrite = none) ∧
      (s.seq.tenure = .scrub → ∀ p, s.cutWord midWrite = some p →
        midWrite = true ∧ (decode (arrayRead s.array p)).found = .correctable ∧
          ∃ st, s.scrub.step = some st ∧ st.target = p ∧ st.decoded = false) ∧
      (s.seq.tenure = .host → ∀ p, s.cutWord midWrite = some p ↔
        midWrite = true ∧ ∃ pl, s.placeInTenure = some pl ∧ pl.afterSkips.length < pl.request.beatCount ∧
          p = s.forward (pl.request.address.toNat + pl.afterSkips.length) ∧
          (pl.request.kind = .read →
            s.config.readWriteback = true ∧ (decode (arrayRead s.array p)).found = .correctable) ∧
          (pl.request.kind = .write → ∃ b, pl.request.beats[pl.afterSkips.length]? = some b ∧ b.mask ≠ 0)) ∧
      (∀ pl : Place, pl.afterSkips = pl.results ++
        ((pl.request.beats.drop pl.results.length).takeWhile (·.mask = 0)).map fun _ => ⟨.skipped, none⟩))

/-- RESET_N rises (R16, R34, R58, R75, R93, R112, R136, R152, R156, R166, R181): what every block holds then. The array is as
it stood, unless the row stands for the whole pulse (log 11). -/
def Obligations.ResetRiseValues : Prop :=
  ∀ (s : State) (a : Fin 8) (preserve : Bool),
    ∃ t, exec (.resetNRise a preserve) s = .next t ∧
      t.W = 2 ^ (17 + a.val) ∧ t.H = t.W - 64 ∧
      (∀ k : Fin 64, t.tu.table[k] = none ∧ t.tu.pool[k] = .free) ∧ t.freeSlots = 64 ∧
      t.seq = ⟨.none, 0⟩ ∧
      t.scrub = ⟨0, 0, if preserve then some 0 else none, 0, 0, 0, none⟩ ∧
      t.watch = [] ∧ t.retq = [] ∧ t.reports = [] ∧ t.migration = none ∧
      t.log = ⟨[], 0, 0, 0, none⟩ ∧ t.offers = [] ∧ t.queue = [] ∧
      t.lifecycle = (if preserve then .hold else .filling .opened) ∧ t.fillCursor = 0 ∧
      t.config = ⟨3, 1000, true, 0x49, 100, 4⟩ ∧
      t.mgmt.frame = .idle ∧ t.mgmt.window = .none ∧ t.mgmt.pointer = 0 ∧ t.mgmt.holder = 0 ∧
      t.mgmt.busy = false ∧ t.mgmt.lastCode = 0 ∧ t.mgmt.lastResult = .none ∧ t.mgmt.lost = false ∧
      t.mgmt.accessError = false ∧ t.mgmt.diag = ⟨0, 0, .clean, 0⟩ ∧ t.mgmt.diagClaim = none ∧
      t.pins = { s.pins with resetLow := false } ∧ t.alert = false ∧
      (s.pins.resetLow = true → t.array = s.array)

/-- While RESET_N is low, no row but its rise changes anything but the pins (R58, R152, R156, R168). -/
def Obligations.NothingButPinsWhileResetLow : Prop :=
  ∀ (c : Instr) (s : State), s.ResetQuiet → s.pins.resetLow = true → (∀ a p, c ≠ .resetNRise a p) →
    ∃ pins : Pins, exec c s = .next { s with pins := pins } ∧ pins.resetLow = true

/-! ## The check code (01) -/

/-- The check byte (R2, R3): the data bits fill the positions that are not powers of two in ascending order, cj is the
exclusive-OR of the data bits whose position has bit j set, and c7 that of the data bits and c0 to c6; so the 72 bits
hold an even number of ones, and the check byte of zero is zero. -/
def Obligations.EncodeFormsCheckByte : Prop :=
  (List.range 64).map position =
      (List.range 72).filter (fun n => n ≠ 0 && (List.range 7).all fun j => n ≠ 2 ^ j) ∧
  ∀ d : DataWord,
    (∀ j < 7, (encode d).getLsbD j =
      (List.range 64).foldl (fun x i => x ^^ (d.getLsbD i && (position i).testBit j)) false) ∧
    (encode d).getLsbD 7 =
      ((List.range 64).foldl (fun x i => x ^^ d.getLsbD i) false ^^
        (List.range 7).foldl (fun x j => x ^^ (encode d).getLsbD j) false) ∧
    (List.range 64).foldl (fun x i => x ^^ d.getLsbD i) false =
      (List.range 8).foldl (fun x j => x ^^ (encode d).getLsbD j) false ∧
    encode 0 = 0

/-- Decoding (R4, R5, R6, R7): the syndrome, the class and form it gives, the reported bit position and the data output. -/
def Obligations.DecodeFollowsSyndrome : Prop :=
  ∀ w : ArrayWord,
    let d := decode w
    let sv := d.syndrome.toNat % 128
    (∀ j < 7, d.syndrome.getLsbD j = ((encode w.data).getLsbD j ^^ w.check.getLsbD j)) ∧
    d.syndrome.getLsbD 7 =
      ((List.range 64).foldl (fun x i => x ^^ w.data.getLsbD i) false ^^
        (List.range 8).foldl (fun x j => x ^^ w.check.getLsbD j) false) ∧
    d.found =
      (if d.syndrome.getLsbD 7 = false then if sv = 0 then .clean else .uncorrectable .double
        else if sv ≤ 71 then .correctable else .uncorrectable .multi) ∧
    (d.found ≠ .correctable → d.bitPosition = none ∧ d.output = w.data) ∧
    (d.found = .correctable →
      (sv = 0 → d.bitPosition = some 71 ∧ d.output = w.data) ∧
      (∀ j < 7, sv = 2 ^ j → d.bitPosition = some (64 + j) ∧ d.output = w.data) ∧
      (∀ i < 64, sv = position i → d.bitPosition = some i ∧ d.output = w.data ^^^ BitVec.twoPow 64 i)) ∧
    d.stored = w

/-- The code corrects every single changed bit and detects every pair of changed bits (R4, R5, R7, R8, R9): a word as
written is CLEAN, one changed bit is named and corrected, two changed bits are UNCORRECTABLE of form DOUBLE. -/
def Obligations.SingleCorrectedDoubleDetected : Prop :=
  ∀ d : DataWord,
    ((decode (encodeWord d)).found = .clean ∧ (decode (encodeWord d)).output = d) ∧
    (∀ b < 72,
      (decode (changeBit (encodeWord d) b)).found = .correctable ∧
      (decode (changeBit (encodeWord d) b)).bitPosition = some b ∧
      (decode (changeBit (encodeWord d) b)).output = d) ∧
    (∀ b < 72, ∀ c < 72, b ≠ c →
      (decode (changeBit (changeBit (encodeWord d) b) c)).found = .uncorrectable .double)

/-- The poison check byte (R10): the correct one with c0 and c1 inverted, decoded as a double error of syndrome 03h. The merge
(R12): each byte from the new word or from the old one, by its mask bit. -/
def Obligations.PoisonAndMergeFormWords : Prop :=
  ((∀ d : DataWord,
      (poison d).getLsbD 0 = !(encode d).getLsbD 0 ∧ (poison d).getLsbD 1 = !(encode d).getLsbD 1 ∧
      (∀ j, 2 ≤ j → j < 8 → (poison d).getLsbD j = (encode d).getLsbD j) ∧
      (decode ⟨d, poison d⟩).syndrome = 0x03 ∧ (decode ⟨d, poison d⟩).found = .uncorrectable .double) ∧
    encode 0xFF = 0x03 ∧ poison 0xFF = 0x00 ∧ poison 0 = 0x03) ∧
  (∀ (old new : DataWord) (mask : ByteMask),
      (∀ k < 8, (merge old new mask).extractLsb' (8 * k) 8 =
        if mask.getLsbD k then new.extractLsb' (8 * k) 8 else old.extractLsb' (8 * k) 8) ∧
      merge old new 0xFF = new ∧ merge old new 0x00 = old)

/-! ## The array and the lookups (02) -/

/-- Every command leaves every array word as it was but the one it stores to, whose address is computed from the state it
starts in (R1, R36, R45, R53, R58). -/
def Obligations.OnlyTheNamedWordChanges : Prop :=
  ∀ (c : Instr) (s t : State) (q : Nat), exec c s = .next t → storeAddress s c ≠ some q →
    arrayRead t.array q = arrayRead s.array q

/-- Forward and reverse lookup (R25, R27), in a state whose pool agrees with its table. -/
def Obligations.LookupsFollowTheTable : Prop :=
  ∀ s : State, s.PoolAgrees → s.LogicalsExist →
    (∀ (k : Fin 64) (e : RepairEntry), s.tu.table[k] = some e →
      s.forward e.logical = s.H + k.val ∧ s.owner (s.H + k.val) = some e.logical ∧ s.owner e.logical = none) ∧
    (∀ l < s.H, (∀ (k : Fin 64) (e : RepairEntry), s.tu.table[k] = some e → e.logical ≠ l) →
      s.forward l = l ∧ s.owner l = some l) ∧
    (∀ k : Fin 64, s.tu.pool[k] ≠ .inUse → s.owner (s.H + k.val) = none) ∧
    (∀ l < s.H, s.owner (s.forward l) = some l)

/-! ## Table commands (02) -/

/-- MAP L, S (R30, R89): its refusals in order, and its entry. -/
def Obligations.MapCreatesEntry : Prop :=
  ∀ (s : State) (l slot : MgmtWord), s.CommandReady →
    (s.H ≤ l.toNat ∨ 64 ≤ slot.toNat →
      exec (.map l slot) s = .next ((s.taken codeMap).answer .range)) ∧
    (∀ k : Fin 64, slot.toNat = k.val → l.toNat < s.H →
      ((s.mappedSlot l.toNat).isSome = true →
        exec (.map l slot) s = .next ((s.taken codeMap).answer .mapped)) ∧
      (s.mappedSlot l.toNat = none → s.tu.pool[k] ≠ .free →
        exec (.map l slot) s = .next ((s.taken codeMap).answer .slotState)) ∧
      (s.mappedSlot l.toNat = none → s.tu.pool[k] = .free →
        s.migrating l.toNat = true ∨ s.queuedForRetirement l.toNat = true →
        exec (.map l slot) s = .next ((s.taken codeMap).answer .inMigration)) ∧
      (s.mappedSlot l.toNat = none → s.tu.pool[k] = .free →
        s.migrating l.toNat = false → s.queuedForRetirement l.toNat = false →
        exec (.map l slot) s =
          .next (({ s.taken codeMap with
            tu := { s.tu with
              table := s.tu.table.set k (some ⟨l.toNat, .loaded, 0⟩), pool := s.tu.pool.set k .inUse },
            watch := s.watch.filter (·.physical ≠ l.toNat) } : State).answer .ok)))

/-- UNMAP L (R31, R89, R24): its refusals in order; taken, the entry goes, its slot is FREE, the slot's watch entry goes, and
the slot's notice releases STUCK entries. -/
def Obligations.UnmapRemovesEntry : Prop :=
  ∀ (s : State) (l : MgmtWord), s.CommandReady →
    (s.H ≤ l.toNat → exec (.unmap l) s = .next ((s.taken codeUnmap).answer .range)) ∧
    (l.toNat < s.H → s.mappedSlot l.toNat = none →
      exec (.unmap l) s = .next ((s.taken codeUnmap).answer .unmapped)) ∧
    (∀ k : Fin 64, l.toNat < s.H → s.mappedSlot l.toNat = some k →
      (s.migrating l.toNat = true →
        exec (.unmap l) s = .next ((s.taken codeUnmap).answer .inMigration)) ∧
      (s.migrating l.toNat = false →
        exec (.unmap l) s =
          .next ((State.releaseStuck { s.taken codeUnmap with
            tu := { s.tu with table := s.tu.table.set k none, pool := s.tu.pool.set k .free },
            watch := s.watch.filter (·.physical ≠ s.H + k.val) }).answer .ok)))

/-- SLOT_FREE S and SLOT_BAD S (R32, R24). -/
def Obligations.SlotCommandsMoveOneSlot : Prop :=
  ∀ (s : State) (slot : MgmtWord), s.CommandReady →
    (64 ≤ slot.toNat →
      exec (.slotFree slot) s = .next ((s.taken codeSlotFree).answer .range) ∧
      exec (.slotBad slot) s = .next ((s.taken codeSlotBad).answer .range)) ∧
    (∀ k : Fin 64, slot.toNat = k.val →
      (s.tu.pool[k] ≠ .bad → exec (.slotFree slot) s = .next ((s.taken codeSlotFree).answer .slotState)) ∧
      (s.tu.pool[k] = .bad →
        exec (.slotFree slot) s =
          .next ((State.releaseStuck { s.taken codeSlotFree with
            tu := { s.tu with pool := s.tu.pool.set k .free } }).answer .ok)) ∧
      (s.tu.pool[k] ≠ .free → exec (.slotBad slot) s = .next ((s.taken codeSlotBad).answer .slotState)) ∧
      (s.tu.pool[k] = .free →
        exec (.slotBad slot) s =
          .next (({ s.taken codeSlotBad with tu := { s.tu with pool := s.tu.pool.set k .bad } } : State).answer .ok)))

/-- The STUCK release at a slot's notice (R88, R24): it touches the Watch List and the Retirement Queue only; without a STUCK
entry it changes nothing; below the threshold STUCK entries become COUNTING; one entry that passes is offered; and
always no STUCK entry is left, the others stay as they are, addresses, counts and ages are kept, and the queue only
grows at its tail; with an owner for every watched word (R78), all that pass are offered oldest first, as far as the space
goes. The offers at the removal of the queue's head (R85, R84): none without a DUE entry or with the queue full; with one
space, the oldest DUE entry, neither active nor queued, is admitted and the younger ones stay DUE; in general the DUE
entries are offered oldest first while there is space, and one whose word is active or queued takes none. -/
def Obligations.ReleasesAndHeadRemovalsOfferEntries : Prop :=
  (∀ s : State, s.WatchSound →
      s.releaseStuck = { s with watch := s.releaseStuck.watch, retq := s.releaseStuck.retq } ∧
      ((∀ e ∈ s.watch, e.state ≠ .stuck) → s.releaseStuck = s) ∧
      ((s.config.ceThreshold = 0 ∨ ∀ e ∈ s.watch, e.state = .stuck → e.count < s.config.ceThreshold) →
        s.releaseStuck =
          { s with watch := s.watch.map fun e => if e.state = .stuck then { e with state := .counting } else e }) ∧
      (∀ (a b : List WatchEntry) (e : WatchEntry) (l : Nat), s.watch = a ++ e :: b → e.state = .stuck →
        (∀ x ∈ a ++ b, x.state ≠ .stuck) → s.owner e.physical = some l →
        s.config.ceThreshold ≠ 0 → s.config.ceThreshold ≤ e.count →
        s.releaseStuck =
          { s with
            watch := a ++ { e with state := (offerResult s l).1 } :: b, retq := (offerResult s l).2 }) ∧
      (s.releaseStuck.watch.map (fun e => (e.physical, e.count)) = s.watch.map (fun e => (e.physical, e.count)) ∧
        (∀ e ∈ s.releaseStuck.watch, e.state ≠ .stuck) ∧
        (∀ e ∈ s.watch, e.state ≠ .stuck → e ∈ s.releaseStuck.watch) ∧
        ∃ added, s.releaseStuck.retq = s.retq ++ added ∧ ∀ r ∈ added, r.origin = .watch) ∧
      ((∀ e ∈ s.watch, s.owner e.physical ≠ none) →
        let r := offerInOrder s
          (fun _ e => e.state = .stuck ∧ s.config.ceThreshold ≠ 0 ∧ s.config.ceThreshold ≤ e.count) s.watch s.retq
        s.releaseStuck =
          { s with
            watch := r.1.map fun e => if e.state = .stuck then { e with state := .counting } else e, retq := r.2 })) ∧
  (∀ s : State, s.WatchSound →
      ((∀ e ∈ s.watch, e.state ≠ .due) → s.offerDueEntries = s) ∧
      (4 ≤ s.retq.length → s.offerDueEntries = s) ∧
      (∀ (a b : List WatchEntry) (e : WatchEntry) (l : Nat), s.watch = a ++ e :: b → e.state = .due →
        (∀ x ∈ a, x.state ≠ .due) → s.owner e.physical = some l → s.migrating l = false →
        s.queuedForRetirement l = false → s.retq.length = 3 →
        s.offerDueEntries =
          { s with watch := a ++ { e with state := .queued } :: b, retq := s.retq ++ [⟨l, .watch⟩] }) ∧
      ((∀ e ∈ s.watch, s.owner e.physical ≠ none) →
        let r := offerInOrder s (fun queue e => e.state = .due ∧ queue.length < 4) s.watch s.retq
        s.offerDueEntries = { s with watch := r.1, retq := r.2 }))

/-! ## The host port (08) -/

/-- The request as decoded (R182) and the checks at its take (R142, R143). -/
def Obligations.RequestDecodedAndChecked : Prop :=
  ∀ raw : RawRequest,
    let r := decodeRequest raw
    (r.kind = .write ↔ raw.header.getLsbD 31 = true) ∧
    r.tag = raw.header.extractLsb' 27 4 ∧ r.lengthCode = raw.header.extractLsb' 25 2 ∧
    r.address = raw.header.extractLsb' 0 24 ∧
    r.beatCount = (match r.lengthCode.toNat with | 0 => 1 | 1 => 2 | 2 => 4 | _ => 1) ∧
    (r.kind = .read ∨ r.lengthCode = 3 → r.beats = []) ∧
    (r.kind = .write → r.lengthCode ≠ 3 →
      r.beats.length = r.beatCount ∧
      ∀ i < r.beatCount, ∀ b ∈ [raw.b0, raw.b1, raw.b2, raw.b3][i]?,
        r.beats[i]? = some ⟨b.extractLsb' 64 8, b.extractLsb' 0 64⟩) ∧
    ∀ h : Nat,
      (r.lengthCode = 3 ∨ r.address.toNat % r.beatCount ≠ 0 → r.refusal h = some .malformed) ∧
      (r.lengthCode ≠ 3 → r.address.toNat % r.beatCount = 0 → h ≤ r.address.toNat + r.beatCount - 1 →
        r.refusal h = some .range) ∧
      (r.lengthCode ≠ 3 → r.address.toNat % r.beatCount = 0 → r.address.toNat + r.beatCount - 1 < h →
        r.refusal h = none)

/-- REQUEST_TAKEN and HELD_REQUEST_TAKEN (R138, R140, R141, R144, R145): in OPEN with a free place the request goes to the tail;
a refused one has its results at once, is DONE when no place ahead is not DONE, and is offered to the log; in any other
state the arriving request is held by the host and a held one stays held. -/
def Obligations.RequestGoesToTheTail : Prop :=
  ∀ (s : State) (raw : RawRequest) (c : Instr), queueOrdered s.queue = true →
    c = .requestTaken raw.header raw.b0 raw.b1 raw.b2 raw.b3 ∨
      c = .heldRequestTaken ∧ s.pins.presented = some raw →
    (s.pins.resetLow = false → s.lifecycle = .opened → s.queue.length < 8 →
      ((decodeRequest raw).refusal s.H = none →
        exec c s = .next { s with
          pins := { s.pins with presented := none },
          queue := s.queue ++ [⟨decodeRequest raw, .waiting, none, []⟩] }) ∧
      (∀ why, (decodeRequest raw).refusal s.H = some why →
        exec c s = .next { s with
          pins := { s.pins with presented := none },
          queue := s.queue ++
            [⟨decodeRequest raw, if s.queue.all (·.state = .done) then .done else .waiting, some why,
              List.replicate (decodeRequest raw).beatCount
                ⟨.refused, if (decodeRequest raw).kind = .read then some 0 else none⟩⟩],
          offers := s.offers ++
            [.hostRefused (decodeRequest raw).address why (decodeRequest raw).tag] })) ∧
    (s.pins.resetLow = true ∨ s.lifecycle ≠ .opened ∨ 8 ≤ s.queue.length →
      exec c s = .next { s with pins := { s.pins with presented := some raw } })

/-- RESPONSE_TAKEN (R148, R151, R163, R180): the DONE head place leaves; the emptying of the queue ends a drain. -/
def Obligations.ResponseFreesTheHead : Prop :=
  ∀ (s : State) (p : Place) (rest : List Place), s.pins.resetLow = false → s.queue = p :: rest → p.state = .done →
    (rest ≠ [] ∨ s.lifecycle.isDraining = false →
      exec .responseTaken s = .next { s with queue := rest }) ∧
    (rest = [] → s.lifecycle = .draining .hold →
      exec .responseTaken s = .next { s with
        queue := [], lifecycle := .hold, mgmt := { s.mgmt with busy := false, lastResult := .ok } }) ∧
    (∀ back, rest = [] → s.lifecycle = .draining (.filling back) →
      exec .responseTaken s = .next (({ s with queue := [] } : State).beginFilling back))

/-- The response of a place (R148, R183), with the codes of its statuses, and when it is offered. -/
def Obligations.ResponseLayout : Prop :=
  (∀ p : Place,
    (p.response.header.getLsbD 31 = true ↔ p.request.kind = .write) ∧
    p.response.header.extractLsb' 27 4 = p.request.tag ∧
    p.response.header.extractLsb' 25 2 = p.request.lengthCode ∧
    (p.response.header.extractLsb' 23 2).toNat =
      (match p.refusal with | none => 0 | some .malformed => 1 | some .range => 2) ∧
    p.response.header.extractLsb' 0 23 = 0 ∧
    ∀ i < 4, ∀ b ∈ [p.response.b0, p.response.b1, p.response.b2, p.response.b3][i]?,
      (p.results[i]? = none → b = 0) ∧
      (∀ r, p.results[i]? = some r →
        b.extractLsb' 64 4 =
          (match r.status with
            | .clean => 0 | .corrected => 1 | .poisoned => 2 | .written => 3 | .merged => 4 | .mergedCorrected => 5
            | .mergedPoisoned => 6 | .skipped => 7 | .refused => 8) ∧
        b.extractLsb' 0 64 = r.data.getD 0)) ∧
  (∀ s : State, s.responseValid = true ↔ ∃ p rest, s.queue = p :: rest ∧ p.state = .done)

/-! ## Host tenures (03) -/

/-- HOST_READ_BEAT (R45, R46, R47, R51): status and data by the class found at the word the lookup gives; a CORRECTABLE word is
reported, offered, and written back when READ_WRITEBACK is 1; an UNCORRECTABLE one is offered. -/
def Obligations.ReadBeatAnswersByClass : Prop :=
  ∀ (s : State) (pl : Place) (p : Nat), s.pins.resetLow = false → s.seq.tenure = .host →
    s.placeInTenure = some pl → pl.request.kind = .read → pl.results.length < pl.request.beatCount →
    p = s.forward (pl.request.address.toNat + pl.results.length) → p < s.W →
    let d := decode (arrayRead s.array p)
    let withResult := fun r : BeatResult =>
      s.queue.map fun x => if x.state = .inTenure then { x with results := pl.results ++ [r] } else x
    (d.found = .clean →
      exec .hostReadBeat s = .next { s with queue := withResult ⟨.clean, some d.output⟩ }) ∧
    (∀ b, d.found = .correctable → d.bitPosition = some b →
      exec .hostReadBeat s = .next { s with
        array := if s.config.readWriteback then arrayWrite s.array p (encodeWord d.output) else s.array,
        queue := withResult ⟨.corrected, some d.output⟩,
        reports := s.reports ++ [⟨.hostBeat, p⟩],
        offers := s.offers ++ [.ce .host p b d.syndrome] }) ∧
    (∀ f, d.found = .uncorrectable f →
      exec .hostReadBeat s = .next { s with
        queue := withResult ⟨.poisoned, some d.output⟩,
        offers := s.offers ++ [.ue .host p d.syndrome] })

/-- HOST_WRITE_BEAT (R45, R48, R50, R52): the next beat that is not skipped, of mask FFh, is stored with its correct check byte
at the word the lookup gives, without a read; the beats of mask 00h before it are SKIPPED (log 16); a migration of its
logical address past COPY_READ becomes dirty. -/
def Obligations.WriteBeatStoresWithoutReading : Prop :=
  ∀ (s : State) (pl : Place) (skips later : List WriteBeat) (b : WriteBeat) (l : Nat),
    s.pins.resetLow = false → s.seq.tenure = .host → s.placeInTenure = some pl →
    pl.request.beats.drop pl.results.length = skips ++ b :: later → (∀ x ∈ skips, x.mask = 0) → b.mask = 0xFF →
    l = pl.request.address.toNat + (pl.results.length + skips.length) → s.forward l < s.W →
    exec .hostWriteBeat s = .next { s with
      array := arrayWrite s.array (s.forward l) ⟨b.data, encode b.data⟩,
      migration := s.migration.map fun c =>
        if c.logical = l ∧ c.phase ≠ .copyRead then { c with dirty := true } else c,
      queue := s.queue.map fun x =>
        if x.state = .inTenure then
          { x with results := pl.results ++ skips.map (fun _ => ⟨.skipped, none⟩) ++ [⟨.written, none⟩] }
        else x }

/-- HOST_MERGE_BEAT (R13, R45, R49, R50, R51, R52): the next beat that is not skipped, of mask 01h to FEh, is merged into the
data output of the word the lookup gives, and stored with the correct check byte, or with the poison check byte over
an UNCORRECTABLE word; report and offer by the class found. -/
def Obligations.MergeBeatCombinesAndStores : Prop :=
  ∀ (s : State) (pl : Place) (skips later : List WriteBeat) (b : WriteBeat) (l : Nat),
    s.pins.resetLow = false → s.seq.tenure = .host → s.placeInTenure = some pl →
    pl.request.beats.drop pl.results.length = skips ++ b :: later → (∀ x ∈ skips, x.mask = 0) →
    b.mask ≠ 0 → b.mask ≠ 0xFF →
    l = pl.request.address.toNat + (pl.results.length + skips.length) → s.forward l < s.W →
    let p := s.forward l
    let d := decode (arrayRead s.array p)
    let m := merge d.output b.data b.mask
    let stored := fun (w : ArrayWord) (st : BeatStatus) =>
      ({ s with
        array := arrayWrite s.array p w,
        migration := s.migration.map fun c =>
          if c.logical = l ∧ c.phase ≠ .copyRead then { c with dirty := true } else c,
        queue := s.queue.map fun x =>
          if x.state = .inTenure then
            { x with results := pl.results ++ skips.map (fun _ => ⟨.skipped, none⟩) ++ [⟨st, none⟩] }
          else x } : State)
    (d.found = .clean → exec .hostMergeBeat s = .next (stored ⟨m, encode m⟩ .merged)) ∧
    (∀ k, d.found = .correctable → d.bitPosition = some k →
      exec .hostMergeBeat s = .next { stored ⟨m, encode m⟩ .mergedCorrected with
        reports := s.reports ++ [⟨.hostBeat, p⟩], offers := s.offers ++ [.ce .merge p k d.syndrome] }) ∧
    (∀ f, d.found = .uncorrectable f →
      exec .hostMergeBeat s = .next { stored ⟨m, poison m⟩ .mergedPoisoned with
        offers := s.offers ++ [.ue .merge p d.syndrome] })

/-- HOST_TENURE_COMPLETION (R37, R45, R50, R145): with every beat performed or skipped, the place is DONE, and with it the
refused places directly behind it; the port is free. -/
def Obligations.CompletionMakesPlacesDone : Prop :=
  ∀ (s : State) (ahead refused behind : List Place) (pl : Place) (skips : List WriteBeat),
    s.pins.resetLow = false → s.seq.tenure = .host →
    s.queue = ahead ++ pl :: (refused ++ behind) → (∀ x ∈ ahead, x.state = .done) → pl.state = .inTenure →
    (∀ x ∈ refused, x.state = .waiting ∧ x.refusal.isSome = true) → (∀ x ∈ behind, x.state = .waiting) →
    (∀ x ∈ behind.head?, x.refusal = none) →
    pl.request.beats.drop pl.results.length = skips → (∀ x ∈ skips, x.mask = 0) →
    pl.results.length + skips.length = pl.request.beatCount →
    exec .hostTenureCompletion s = .next { s with
      seq := { s.seq with tenure := .none },
      queue := ahead ++
        { pl with state := .done, results := pl.results ++ skips.map fun _ => ⟨.skipped, none⟩ } ::
          (refused.map (fun x => { x with state := .done }) ++ behind) }

/-! ## The arbiter (03) -/

/-- GRANT_DECISION (R39, R40, R42): with the port free, FILL alone in FILLING; else the first eligible claim of the list, where
the host is not eligible in HOLD; with no claim, nothing. -/
def Obligations.GrantFollowsPrecedence : Prop :=
  ∀ s : State, s.pins.resetLow = false → s.seq.tenure = .none →
    (s.lifecycle.isFilling = true →
      exec .grantDecision s =
        .next (if s.fillCursor < s.W then { s with seq := { s.seq with tenure := .fill s.fillCursor } } else s)) ∧
    (s.lifecycle.isFilling = false →
      exec .grantDecision s =
        .next
          (if 3 ≤ s.scrub.credit ∧ s.scrub.step = none then s.grantScrub
          else if s.mgmt.diagClaim.isSome then s.grantDiag
          else if s.migration.isSome ∧
              ((∃ c ∈ s.migration, c.pinned = true) ∨ s.config.migrationFairness ≤ s.seq.streak) then s.grantMigration
          else if s.lifecycle ≠ .hold ∧ s.hostClaim = true then s.grantHost
          else if s.migration.isSome then s.grantMigration
          else if 1 ≤ s.scrub.credit ∧ s.scrub.step = none then s.grantScrub
          else s))

/-- What each grant does (R37, R43, R56, R68, R95, R101, R146), and when the host has a claim (R39, R41). The live mark of a
migration tenure is the model's (log 20), and so is the zero that a COPY_WRITE with an empty buffer would store, which no
reachable state has (log 21). -/
def Obligations.GrantsSetTheTenure : Prop :=
  ∀ s : State,
    (∀ (ahead behind : List Place) (pl : Place), s.queue = ahead ++ pl :: behind → (∀ x ∈ ahead, x.state ≠ .waiting) →
      pl.state = .waiting →
      (s.hostClaim = true ↔
        ¬ ∃ c ∈ s.migration, c.pinned = true ∧ pl.request.kind = .write ∧
          pl.request.address.toNat ≤ c.logical ∧ c.logical < pl.request.address.toNat + pl.request.beatCount) ∧
      s.grantHost = { s with
        queue := ahead ++ { pl with state := .inTenure } :: behind,
        seq := ⟨.host, min (s.seq.streak + 1) 15⟩ }) ∧
    ((∀ x ∈ s.queue, x.state ≠ .waiting) → s.hostClaim = false) ∧
    (∀ c, s.migration = some c →
      s.grantMigration = { s with
        seq := ⟨.migration c.phase (if c.phase = .copyRead then c.source else s.H + c.target.val)
          (c.buffer.getD 0) true, 0⟩ }) ∧
    (∀ p, s.mgmt.diagClaim = some (.peek p) →
      s.grantDiag = { s with
        seq := { s.seq with tenure := .peek p }, mgmt := { s.mgmt with diagClaim := none } }) ∧
    (∀ p, s.mgmt.diagClaim = some (.poke p) →
      s.grantDiag = { s with
        seq := { s.seq with tenure := .poke p ⟨s.mgmt.diag.data, s.mgmt.diag.check⟩ },
        mgmt := { s.mgmt with diagClaim := none } }) ∧
    s.grantScrub = { s with
      seq := { s.seq with tenure := .scrub },
      scrub := { s.scrub with
        cursor := s.scrubTarget.1, passes := s.scrubTarget.2, step := some ⟨s.scrubTarget.1, false, false⟩ } }

/-- The target of a scrub step (R67, R68): from the cursor, the first word that is neither a retired word nor an idle slot,
with one wrap counted when the search passes W-1. -/
def Obligations.ScrubTargetIsFirstWordInService : Prop :=
  ∀ s : State, s.scrub.cursor < s.W →
    let skipped := fun p : Nat =>
      p < s.H ∧ (s.mappedSlot p).isSome = true ∨ ∃ k : Fin 64, p = s.H + k.val ∧ s.tu.pool[k] ≠ .inUse
    ∃ n ≤ 128,
      s.scrubTarget =
        ((s.scrub.cursor + n) % s.W, if s.scrub.cursor + n < s.W then s.scrub.passes else s.scrub.passes + 1) ∧
      ¬ skipped s.scrubTarget.1 ∧
      ∀ j < n, skipped ((s.scrub.cursor + j) % s.W)

/-! ## Hand-offs, accounting and the log (05, 07) -/

/-- RECORD_OFFER (R115, R118 to R129, R186): the oldest outstanding offer of the block (oldest first is the
model's choice, log 8) is taken whole: merged into a
matching newest record, else appended, else it displaces the oldest NOTICE, else it is dropped; its flag, DROPPED and the
first-UE latch are set whatever the outcome. The logical field of a CE or UE kind is the reverse lookup at the take, but
the migration's L in CE_MIGRATE and UE_MIGRATE. First the tables these rest on: block, kind code, class, address key,
bit compared and flag of each kind. -/
def Obligations.OfferMergesAppendsDisplacesOrDrops : Prop :=
  (∀ (h p b l x : Nat) (f : Finder) (syn : BitVec 8) (k : Fin 64) (w : WordClass) (why : AbandonCause) (a : BitVec 24)
      (no : RefusalReason) (tag : BitVec 4),
    let table := fun o : Offer =>
      (o.source, o.kindCode, o.severe, o.addressKey h, o.mergeBit, o.flag)
    let block : OfferSource :=
      match f with | .host => .sequencer | .merge => .sequencer | .scrub => .scrubber | .migrate _ => .migrationEngine
    let ceKind := match f with | .host => 1 | .merge => 2 | .scrub => 3 | .migrate _ => 4
    let ueKind := match f with | .host => 5 | .merge => 6 | .scrub => 7 | .migrate _ => 8
    table (.ce f p b syn) = (block, ceKind, false, some p, some b, some 1) ∧
    table (.ue f p syn) = (block, ueKind, true, some p, none, some 0) ∧
    table (.spareFail k l w) = (.migrationEngine, 9, false, some (h + k.val), none, some 2) ∧
    table (.migrationDone l x k) = (.migrationEngine, 10, false, some x, none, none) ∧
    table (.migrationAbandoned l why k) = (.migrationEngine, 11, true, none, none, none) ∧
    table (.slotsExhausted l) = (.migrationEngine, 12, true, none, none, some 3) ∧
    table .scrubOverrun = (.scrubber, 13, false, none, none, some 4) ∧
    table (.hostRefused a no tag) = (.hostPort, 14, false, none, none, some 5)) ∧
  ∀ (s : State) (src : OfferSource) (before after : List Offer) (o : Offer), s.pins.resetLow = false →
    s.offers = before ++ o :: after → o.source = src → (∀ x ∈ before, x.source ≠ src) →
    let matched := fun r : LogRecord =>
      r.offer.kindCode = o.kindCode ∧ r.offer.addressKey s.H = o.addressKey s.H ∧ r.offer.mergeBit = o.mergeBit
    let merges := ∃ r ∈ s.log.records.getLast?, matched r
    let logical : Option Nat :=
      match o with
      | .ce (.migrate l) _ _ _ | .ue (.migrate l) _ _ => some l
      | .ce _ p _ _ | .ue _ p _ => s.owner p
      | _ => none
    let new : LogRecord := ⟨s.log.nextSeq, s.scrub.microseconds, 1, o, logical⟩
    ∃ log, exec (.recordOffer src) s = .next { s with offers := before ++ after, log := log } ∧
      (∀ rs r, s.log.records = rs ++ [r] → matched r →
        log.records = rs ++ [{ r with repeats := min (r.repeats + 1) 255 }] ∧
        log.nextSeq = s.log.nextSeq ∧ log.dropped = s.log.dropped) ∧
      (¬ merges → s.log.records.length < 16 →
        log.records = s.log.records ++ [new] ∧ log.nextSeq = s.log.nextSeq + 1 ∧ log.dropped = s.log.dropped) ∧
      (∀ a r b, ¬ merges → 16 ≤ s.log.records.length → o.severe = true → s.log.records = a ++ r :: b →
        (∀ x ∈ a, x.offer.severe = true) → r.offer.severe = false →
        log.records = a ++ b ++ [new] ∧ log.nextSeq = s.log.nextSeq + 1 ∧
        log.dropped = min (s.log.dropped + 1) 255) ∧
      (¬ merges → 16 ≤ s.log.records.length →
        o.severe = false ∨ (∀ r ∈ s.log.records, r.offer.severe = true) →
        log.records = s.log.records ∧ log.nextSeq = s.log.nextSeq ∧ log.dropped = min (s.log.dropped + 1) 255) ∧
      (∀ j < 7, log.flags.getLsbD j = true ↔
        s.log.flags.getLsbD j = true ∨ o.flag = some j ∨ j = 6 ∧ ¬ merges ∧ 16 ≤ s.log.records.length) ∧
      (∀ u, s.log.firstUE = some u → log.firstUE = some u) ∧
      (∀ f p syn, s.log.firstUE = none → o = .ue f p syn → log.firstUE = some ⟨f, p, logical⟩) ∧
      (s.log.firstUE = none → (∀ f p syn, o ≠ .ue f p syn) → log.firstUE = none)

/-- CE_REPORT (R77, R80 to R82, R84): the oldest outstanding report of the source (oldest first is the
model's choice, log 9) is taken: dropped without an owner; counted
when its word is watched; else inserted last, after an eviction when the list is full; not watched when nothing can be
evicted. An entry that passes the threshold test is offered to the Retirement Queue. -/
def Obligations.ReportIsCountedOrInserted : Prop :=
  ∀ (s : State) (src : ReportSource) (before after : List CEReport) (r : CEReport), s.pins.resetLow = false →
    s.WatchSound → s.reports = before ++ r :: after → r.src = src → (∀ x ∈ before, x.src ≠ src) →
    let s' : State := { s with reports := before ++ after }
    let passes := fun n : Nat => s.config.ceThreshold ≠ 0 ∧ s.config.ceThreshold ≤ n
    (s.owner r.physical = none → exec (.ceReport src) s = .next s') ∧
    (∀ (l : Nat) (a b : List WatchEntry) (e : WatchEntry), s.owner r.physical = some l →
      s.watch = a ++ e :: b → e.physical = r.physical →
      (¬ (e.state = .counting ∧ passes (min (e.count + 1) 15)) →
        exec (.ceReport src) s =
          .next { s' with watch := a ++ { e with count := min (e.count + 1) 15 } :: b }) ∧
      (e.state = .counting → passes (min (e.count + 1) 15) →
        exec (.ceReport src) s =
          .next { s' with
            watch := a ++ ⟨e.physical, min (e.count + 1) 15, (offerResult s l).1⟩ :: b,
            retq := (offerResult s l).2 })) ∧
    (∀ (l : Nat) (kept : List WatchEntry), s.owner r.physical = some l → (∀ e ∈ s.watch, e.physical ≠ r.physical) →
      (s.watch.length < 8 ∧ kept = s.watch ∨
        8 ≤ s.watch.length ∧ ∃ a v b, s.watch = a ++ v :: b ∧ kept = a ++ b ∧ v.state = .counting ∧
          (∀ x ∈ a, x.state = .counting → v.count < x.count) ∧
          (∀ x ∈ b, x.state = .counting → v.count ≤ x.count)) →
      (¬ passes 1 → exec (.ceReport src) s = .next { s' with watch := kept ++ [⟨r.physical, 1, .counting⟩] }) ∧
      (passes 1 →
        exec (.ceReport src) s =
          .next { s' with
            watch := kept ++ [⟨r.physical, 1, (offerResult s l).1⟩], retq := (offerResult s l).2 })) ∧
    (s.owner r.physical ≠ none → (∀ e ∈ s.watch, e.physical ≠ r.physical) → 8 ≤ s.watch.length →
      (∀ e ∈ s.watch, e.state ≠ .counting) → exec (.ceReport src) s = .next s')

/-- RETIRE L (R90): its refusals in order; taken, L enters at the tail and its word's watch entry is QUEUED. CLEAR_WATCH (R91) and
SCRUB_SEEK P (R72, R71): the list is emptied; the cursor is set, and a step in progress is marked. -/
def Obligations.RetireClearWatchAndSeek : Prop :=
  (∀ (s : State) (l : MgmtWord), s.CommandReady →
      (s.H ≤ l.toNat → exec (.retire l) s = .next ((s.taken codeRetire).answer .range)) ∧
      (l.toNat < s.H → s.migrating l.toNat = true ∨ s.queuedForRetirement l.toNat = true →
        exec (.retire l) s = .next ((s.taken codeRetire).answer .duplicate)) ∧
      (l.toNat < s.H → s.migrating l.toNat = false → s.queuedForRetirement l.toNat = false →
        (4 ≤ s.retq.length → exec (.retire l) s = .next ((s.taken codeRetire).answer .full)) ∧
        (s.retq.length < 4 →
          exec (.retire l) s =
            .next (({ s.taken codeRetire with
              watch := s.watch.map fun e =>
                if e.physical = s.forward l.toNat then { e with state := .queued } else e,
              retq := s.retq ++ [⟨l.toNat, .command⟩] } : State).answer .ok)))) ∧
  (∀ (s : State) (p : MgmtWord), s.CommandReady →
      exec .clearWatch s = .next (({ s.taken codeClearWatch with watch := [] } : State).answer .ok) ∧
      (s.W ≤ p.toNat → exec (.scrubSeek p) s = .next ((s.taken codeScrubSeek).answer .range)) ∧
      (p.toNat < s.W →
        exec (.scrubSeek p) s =
          .next (({ s.taken codeScrubSeek with
            scrub := { s.scrub with
              cursor := p.toNat, step := s.scrub.step.map fun st => { st with cursorMoved := true } } } : State).answer
            .ok)))

/-- POP_LOG, CLEAR_LOG and CLEAR_SUMMARY (R132, R133, R134). -/
def Obligations.LogCommandsRemoveOnlyTheirs : Prop :=
  ∀ s : State, s.CommandReady →
    (s.log.records = [] → exec .popLog s = .next ((s.taken codePopLog).answer .empty)) ∧
    (∀ r rest, s.log.records = r :: rest →
      exec .popLog s =
        .next (({ s.taken codePopLog with log := { s.log with records := rest } } : State).answer .ok)) ∧
    exec .clearLog s =
      .next (({ s.taken codeClearLog with log := { s.log with records := [] } } : State).answer .ok) ∧
    exec .clearSummary s =
      .next (({ s.taken codeClearSummary with
        log := { s.log with flags := 0, firstUE := none, dropped := 0 } } : State).answer .ok)

/-- The ALERT line (R131, R136): asserted exactly while RESET_N is high and a set flag's member is in the mask, or a record is
held and LOG is in the mask. -/
def Obligations.AlertFollowsMask : Prop :=
  ∀ s : State, s.alert = true ↔
    s.pins.resetLow = false ∧
      ((∃ j < 7, s.log.flags.getLsbD j = true ∧ s.config.alertMask.getLsbD j = true) ∨
        1 ≤ s.log.records.length ∧ s.config.alertMask.getLsbD 7 = true)

/-! ## Time and scrubbing (04) -/

/-- REFERENCE_CLOCK_PERIOD, MICROSECOND_TICK and INTERVAL_EXPIRY (R60, R62, R64). A count that has reached its limit waits there
for the row that it makes due, and a tick or an expiry sent before its count is due changes nothing (logs 6, 12). -/
def Obligations.ClockRowsAdvanceTime : Prop :=
  ∀ s : State, s.pins.resetLow = false →
    (s.scrub.periodCount < s.config.timebaseDiv →
      exec .referenceClockPeriod s =
        .next { s with scrub := { s.scrub with periodCount := s.scrub.periodCount + 1 } }) ∧
    (s.scrub.periodCount = s.config.timebaseDiv → exec .referenceClockPeriod s = .next s) ∧
    (s.scrub.periodCount < s.config.timebaseDiv → exec .microsecondTick s = .next s) ∧
    (s.scrub.periodCount = s.config.timebaseDiv →
      (s.scrub.timer = none →
        exec .microsecondTick s =
          .next { s with scrub := { s.scrub with periodCount := 0, microseconds := s.scrub.microseconds + 1 } }) ∧
      (∀ e, s.scrub.timer = some e → e < s.config.scrubInterval →
        exec .microsecondTick s =
          .next { s with
            scrub := { s.scrub with
              periodCount := 0, microseconds := s.scrub.microseconds + 1, timer := some (e + 1) } }) ∧
      (s.scrub.timer = some s.config.scrubInterval →
        exec .microsecondTick s =
          .next { s with scrub := { s.scrub with periodCount := 0, microseconds := s.scrub.microseconds + 1 } })) ∧
    (s.scrub.timer = none ∨ (∃ e, s.scrub.timer = some e ∧ e < s.config.scrubInterval) →
      exec .intervalExpiry s = .next s) ∧
    (s.scrub.timer = some s.config.scrubInterval →
      (s.scrub.credit < 4 →
        exec .intervalExpiry s =
          .next { s with scrub := { s.scrub with timer := some 0, credit := s.scrub.credit + 1 } }) ∧
      (4 ≤ s.scrub.credit →
        exec .intervalExpiry s =
          .next { s with
            scrub := { s.scrub with timer := some 0 }, offers := s.offers ++ [.scrubOverrun] }))

/-- SCRUB_DECODE and SCRUB_STEP_COMPLETION (R65, R67, R69, R71): the target is read once; a CORRECTABLE word is written back,
reported and offered, an UNCORRECTABLE one offered; the completion takes one credit and moves the cursor past the
target, unless a command moved it during the step. -/
def Obligations.ScrubStepChecksItsTarget : Prop :=
  ∀ (s : State) (st : ScrubStep), s.pins.resetLow = false → s.seq.tenure = .scrub → s.scrub.step = some st →
    (st.decoded = false → st.target < s.W →
      let d := decode (arrayRead s.array st.target)
      let decoded : State := { s with scrub := { s.scrub with step := some { st with decoded := true } } }
      (d.found = .clean → exec .scrubDecode s = .next decoded) ∧
      (∀ b, d.found = .correctable → d.bitPosition = some b →
        exec .scrubDecode s = .next { decoded with
          array := arrayWrite s.array st.target ⟨d.output, encode d.output⟩,
          reports := s.reports ++ [⟨.scrubStep, st.target⟩],
          offers := s.offers ++ [.ce .scrub st.target b d.syndrome] }) ∧
      (∀ f, d.found = .uncorrectable f →
        exec .scrubDecode s = .next { decoded with
          offers := s.offers ++ [.ue .scrub st.target d.syndrome] })) ∧
    (st.decoded = true →
      let done : State := { s with
        seq := { s.seq with tenure := .none },
        scrub := { s.scrub with credit := s.scrub.credit - 1, step := none } }
      (st.cursorMoved = true → exec .scrubStepCompletion s = .next done) ∧
      (st.cursorMoved = false → st.target + 1 < s.W →
        exec .scrubStepCompletion s =
          .next { done with scrub := { done.scrub with cursor := st.target + 1 } }) ∧
      (st.cursorMoved = false → st.target + 1 = s.W →
        exec .scrubStepCompletion s =
          .next { done with scrub := { done.scrub with cursor := 0, passes := s.scrub.passes + 1 } }))

/-! ## Migration (06) -/

/-- MIGRATION_START (R20, R86, R96 to R98): the head leaves the queue; with a FREE slot the context is made on the lowest one,
without one SLOTS_EXHAUSTED is offered and the source entry is STUCK; the DUE entries are offered last. -/
def Obligations.StartReservesLowestFreeSlot : Prop :=
  ∀ (s : State) (r : RetireRequest) (rest : List RetireRequest), s.pins.resetLow = false →
    s.migration = none → s.lifecycle = .opened ∨ s.lifecycle = .hold → s.retq = r :: rest →
    (∀ k : Fin 64, s.tu.pool[k] = .free → (∀ j : Fin 64, j < k → s.tu.pool[j] ≠ .free) →
      exec .migrationStart s =
        .next (State.offerDueEntries { s with
          retq := rest,
          tu := { s.tu with pool := s.tu.pool.set k .reserved },
          migration := some ⟨r.logical, s.forward r.logical, k, .copyRead, none, false, 0, false, r.origin⟩,
          watch := s.watch.map fun e =>
            if e.physical = s.forward r.logical then { e with state := .migrating } else e })) ∧
    ((∀ k : Fin 64, s.tu.pool[k] ≠ .free) →
      exec .migrationStart s =
        .next (State.offerDueEntries { s with
          retq := rest,
          offers := s.offers ++ [.slotsExhausted r.logical],
          watch := s.watch.map fun e =>
            if e.physical = s.forward r.logical then { e with state := .stuck } else e }))

/-- COPY_READ_COMPLETION and COPY_WRITE_COMPLETION of the active migration (R38, R87, R99 to R101, R115). The array access of
the tenure is made at its completion row, the model's choice (log 15). -/
def Obligations.CopyTenuresMoveTheWord : Prop :=
  ∀ (s : State) (c : MigrationContext) (p : Nat) (d : DataWord), s.pins.resetLow = false →
    s.migration = some c → p < s.W →
    (s.seq.tenure = .migration .copyRead p d true →
      let found := decode (arrayRead s.array p)
      let read : State := { s with
        seq := { s.seq with tenure := .none },
        migration := some { c with buffer := some found.output, phase := .copyWrite } }
      (found.found = .clean → exec .copyReadCompletion s = .next read) ∧
      (∀ b, found.found = .correctable → found.bitPosition = some b →
        exec .copyReadCompletion s =
          .next { read with offers := s.offers ++ [.ce (.migrate c.logical) c.source b found.syndrome] }) ∧
      (∀ f, found.found = .uncorrectable f →
        exec .copyReadCompletion s =
          .next (State.releaseStuck { s with
            seq := { s.seq with tenure := .none }, migration := none,
            offers := s.offers ++
              [.ue (.migrate c.logical) c.source found.syndrome, .migrationAbandoned c.logical .sourceUE c.target],
            watch := s.watch.filter (·.physical ≠ c.source),
            tu := { s.tu with pool := s.tu.pool.set c.target .free } }))) ∧
    (s.seq.tenure = .migration .copyWrite p d true →
      exec .copyWriteCompletion s =
        .next { s with
          seq := { s.seq with tenure := .none },
          array := arrayWrite s.array p ⟨d, encode d⟩,
          migration := some { c with phase := .verify } })

/-- VERIFY_COMPLETION of the active migration (R102 to R104, R106 to R108, R22): the judgement and each of its outcomes. -/
def Obligations.VerifyInstallsRestartsOrReplaces : Prop :=
  ∀ (s : State) (c : MigrationContext) (p : Nat) (d : DataWord), s.pins.resetLow = false →
    s.migration = some c → p < s.W → s.seq.tenure = .migration .verify p d true →
    let found := decode (arrayRead s.array p)
    let good := found.found = .clean ∧ c.buffer = some found.output
    let free : State := { s with seq := { s.seq with tenure := .none } }
    (good → c.dirty = true →
      (c.restarts < 3 →
        exec .verifyCompletion s =
          .next { free with
            migration := some { c with restarts := c.restarts + 1, dirty := false, phase := .copyRead } }) ∧
      (3 ≤ c.restarts →
        exec .verifyCompletion s =
          .next { free with migration := some { c with pinned := true, dirty := false, phase := .copyRead } })) ∧
    (good → c.dirty = false →
      let installed : State := { free with
        migration := none,
        offers := s.offers ++ [.migrationDone c.logical c.source c.target],
        watch := s.watch.filter (·.physical ≠ c.source) }
      (s.mappedSlot c.logical = none →
        exec .verifyCompletion s =
          .next { installed with
            tu := { s.tu with
              table := s.tu.table.set c.target (some ⟨c.logical, .migrated, 1⟩),
              pool := s.tu.pool.set c.target .inUse } }) ∧
      (∀ (old : Fin 64) (e : RepairEntry), s.mappedSlot c.logical = some old → s.tu.table[old] = some e →
        exec .verifyCompletion s =
          .next { installed with
            tu := { s.tu with
              table := (s.tu.table.set old none).set c.target (some ⟨c.logical, .migrated, min (e.moves + 1) 15⟩),
              pool := (s.tu.pool.set c.target .inUse).set old .bad } })) ∧
    (¬ good →
      (∀ k : Fin 64, k ≠ c.target → s.tu.pool[k] = .free →
        (∀ j : Fin 64, j < k → j ≠ c.target → s.tu.pool[j] ≠ .free) →
        exec .verifyCompletion s =
          .next { free with
            offers := s.offers ++ [.spareFail c.target c.logical found.found],
            tu := { s.tu with pool := (s.tu.pool.set c.target .bad).set k .reserved },
            migration := some { c with
              target := k, dirty := false, phase := if c.dirty then .copyRead else .copyWrite } }) ∧
      ((∀ k : Fin 64, k ≠ c.target → s.tu.pool[k] ≠ .free) →
        exec .verifyCompletion s =
          .next { free with
            offers := s.offers ++
              [.spareFail c.target c.logical found.found, .slotsExhausted c.logical],
            tu := { s.tu with pool := s.tu.pool.set c.target .bad },
            migration := none,
            watch := s.watch.map fun e =>
              if e.physical = c.source then { e with state := .stuck } else e }))

/-- A tenure whose context has ended (R38): its outcome is discarded, and only its array access has taken place. -/
def Obligations.OrphanedOutcomesAreDiscarded : Prop :=
  ∀ (s : State) (p : Nat) (d : DataWord), s.pins.resetLow = false → p < s.W →
    (s.seq.tenure = .migration .copyRead p d false →
      exec .copyReadCompletion s = .next { s with seq := { s.seq with tenure := .none } }) ∧
    (s.seq.tenure = .migration .verify p d false →
      exec .verifyCompletion s = .next { s with seq := { s.seq with tenure := .none } }) ∧
    (s.seq.tenure = .migration .copyWrite p d false →
      exec .copyWriteCompletion s =
        .next { s with
          seq := { s.seq with tenure := .none }, array := arrayWrite s.array p ⟨d, encode d⟩ })

/-- CANCEL_MIGRATION (R109, R38, R87): EMPTY without a migration; else the record is offered, the source entry is COUNTING, the
context ends, a running tenure of it is orphaned, and the target's release gives its notice. -/
def Obligations.CancelEndsTheMigration : Prop :=
  ∀ s : State, s.CommandReady →
    (s.migration = none → exec .cancelMigration s = .next ((s.taken codeCancelMigration).answer .empty)) ∧
    (∀ c, s.migration = some c →
      exec .cancelMigration s =
        .next ((State.releaseStuck { s.taken codeCancelMigration with
          offers := s.offers ++ [.migrationAbandoned c.logical .cancel c.target],
          watch := s.watch.map fun e => if e.physical = c.source then { e with state := .counting } else e,
          migration := none,
          seq := { s.seq with tenure := s.seq.tenure.orphaned },
          tu := { s.tu with pool := s.tu.pool.set c.target .free } }).answer .ok))

/-! ## Lifecycle (09) -/

/-- FILL_WORD_COMPLETION (R158, R159, R74, R180): zero with check byte 00h at the word, the cursor one further; at W the state
becomes the fill return state, the timer starts, and a FILL in progress completes. -/
def Obligations.FillWritesZeroWords : Prop :=
  ∀ (s : State) (p : Nat) (back : FillReturn), s.pins.resetLow = false → s.seq.tenure = .fill p → p < s.W →
    s.lifecycle = .filling back →
    let filled : State := { s with
      array := arrayWrite s.array p ⟨0, 0⟩, seq := { s.seq with tenure := .none }, fillCursor := s.fillCursor + 1 }
    let ended : State := { filled with
      lifecycle := (match back with | .opened => .opened | .hold => .hold),
      scrub := { s.scrub with timer := if s.config.scrubInterval = 0 then none else some 0 } }
    (s.fillCursor + 1 ≠ s.W → exec .fillWordCompletion s = .next filled) ∧
    (s.fillCursor + 1 = s.W → s.mgmt.busy = false → exec .fillWordCompletion s = .next ended) ∧
    (s.fillCursor + 1 = s.W → s.mgmt.busy = true →
      exec .fillWordCompletion s =
        .next { ended with mgmt := { s.mgmt with busy := false, lastResult := .ok } })

/-- OPEN, CLOSE and FILL (R160 to R163), in each lifecycle state in which the command state can be IDLE; and the event at which
FILLING begins (R73, R110, R157): the cursor is 0, credit and timer go, and an active migration is aborted with cause
FILL. -/
def Obligations.LifecycleCommandsMoveTheState : Prop :=
  (∀ s : State, s.CommandReady →
      (s.lifecycle = .hold →
        exec .openArray s = .next (({ s.taken codeOpen with lifecycle := .opened } : State).answer .ok) ∧
        exec .closeArray s = .next ((s.taken codeClose).answer .state) ∧
        exec .fillArray s = .next ((s.taken codeFill).goBusy.beginFilling .hold)) ∧
      (s.lifecycle = .opened →
        exec .openArray s = .next ((s.taken codeOpen).answer .state) ∧
        (s.queue ≠ [] →
          exec .closeArray s = .next { (s.taken codeClose).goBusy with lifecycle := .draining .hold } ∧
          exec .fillArray s =
            .next { (s.taken codeFill).goBusy with lifecycle := .draining (.filling .opened) }) ∧
        (s.queue = [] →
          exec .closeArray s = .next (({ s.taken codeClose with lifecycle := .hold } : State).answer .ok) ∧
          exec .fillArray s =
            .next (({ (s.taken codeFill).goBusy with
              lifecycle := .draining (.filling .opened) } : State).beginFilling .opened))) ∧
      (s.lifecycle.isFilling = true →
        exec .openArray s = .next ((s.taken codeOpen).answer .state) ∧
        exec .closeArray s = .next ((s.taken codeClose).answer .state) ∧
        exec .fillArray s = .next ((s.taken codeFill).answer .state))) ∧
  (∀ (s : State) (back : FillReturn),
      (s.migration = none →
        s.beginFilling back = { s with
          lifecycle := .filling back, fillCursor := 0, scrub := { s.scrub with credit := 0, timer := none } }) ∧
      (∀ c, s.migration = some c →
        s.beginFilling back =
          State.releaseStuck { s with
            lifecycle := .filling back, fillCursor := 0, scrub := { s.scrub with credit := 0, timer := none },
            offers := s.offers ++ [.migrationAbandoned c.logical .fill c.target],
            watch := s.watch.map fun e => if e.physical = c.source then { e with state := .counting } else e,
            migration := none,
            seq := { s.seq with tenure := s.seq.tenure.orphaned },
            tu := { s.tu with pool := s.tu.pool.set c.target .free } }))

/-- SOFT_RESET (R35, R59, R76, R93, R111, R137, R153, R164, R181): every block's effect, one event. -/
def Obligations.SoftResetReturnsWorkingRecords : Prop :=
  ∀ s : State, s.CommandReady →
    exec .softReset s =
      .next (({ s.taken codeSoftReset with
        tu := { s.tu with
          pool := (match s.migration with | some c => s.tu.pool.set c.target .free | none => s.tu.pool) },
        migration := none,
        seq := ⟨s.seq.tenure.orphaned, 0⟩,
        scrub := { s.scrub with
          timer := if s.lifecycle.isFilling = true ∨ s.config.scrubInterval = 0 then none else some 0,
          credit := 0, cursor := 0, passes := 0,
          step := s.scrub.step.map fun st => { st with cursorMoved := true } },
        watch := [], retq := [], log := ⟨[], 0, 0, 0, none⟩ } : State).answer .ok)

/-! ## PEEK and POKE (03) -/

/-- PEEK P and POKE P at their take (R54): RANGE, STATE in FILLING, else BUSY with a DIAG claim; and at the completion of their
tenure (R55, R56, R176, R180): PEEK shows the stored bits, class and syndrome, POKE stores the word as it stood at the
grant, and either completes. -/
def Obligations.PeekAndPokeReachAnyWord : Prop :=
  (∀ (s : State) (p : MgmtWord), s.CommandReady →
      (s.W ≤ p.toNat →
        exec (.peek p) s = .next ((s.taken codePeek).answer .range) ∧
        exec (.poke p) s = .next ((s.taken codePoke).answer .range)) ∧
      (p.toNat < s.W → s.lifecycle.isFilling = true →
        exec (.peek p) s = .next ((s.taken codePeek).answer .state) ∧
        exec (.poke p) s = .next ((s.taken codePoke).answer .state)) ∧
      (p.toNat < s.W → s.lifecycle = .hold ∨ s.lifecycle = .opened →
        exec (.peek p) s =
          .next { s.taken codePeek with
            mgmt := { (s.taken codePeek).mgmt with busy := true, diagClaim := some (.peek p.toNat) } } ∧
        exec (.poke p) s =
          .next { s.taken codePoke with
            mgmt := { (s.taken codePoke).mgmt with busy := true, diagClaim := some (.poke p.toNat) } })) ∧
  (∀ (s : State) (p : Nat) (w : ArrayWord), s.pins.resetLow = false → p < s.W →
      (s.seq.tenure = .peek p →
        let d := decode (arrayRead s.array p)
        exec .peekCompletion s =
          .next { s with
            seq := { s.seq with tenure := .none },
            mgmt := { s.mgmt with
              diag := ⟨(arrayRead s.array p).data, (arrayRead s.array p).check, d.found, d.syndrome⟩,
              busy := false, lastResult := .ok } }) ∧
      (s.seq.tenure = .poke p w →
        exec .pokeCompletion s =
          .next { s with
            array := arrayWrite s.array p w, seq := { s.seq with tenure := .none },
            mgmt := { s.mgmt with busy := false, lastResult := .ok } }))

/-! ## The management port (10, 11) -/

/-- Every complete command that arrives while BUSY is discarded with LOST set (R179): no block, and no other part of the port,
changes. -/
def Obligations.BusyDiscardsEveryCommand : Prop :=
  ∀ (c : Instr) (code : BitVec 8) (s : State), commandCode c = some code → s.frameAccepts = true →
    s.mgmt.busy = true →
    exec c s = .next { s.frameEnded with mgmt := { s.frameEnded.mgmt with lost := true } }

/-- FRAME_START, FRAME_END, UNKNOWN_FRAME_KIND, UNKNOWN_COMMAND and SELECT (R167, R168, R170, R174, R179); the codes of windows and
commands (R184); and the row that a frame's bytes spell (R167, R170, R178, R184): a SELECT of 4 bytes, a COMMAND of 2 bytes and 4
for each argument word, each most significant byte first, further bytes ignored and an incomplete frame none. A SELECT,
COMMAND or unknown frame is one row that may begin its own frame (the model's choice, log 10). -/
def Obligations.FramesSelectAndUnknownCodes : Prop :=
  (∀ s : State,
    (s.pins.resetLow = false → s.pins.ssnLow = false →
      exec .frameStart s = .next { s with
        pins := { s.pins with ssnLow := true }, mgmt := { s.mgmt with frame := .running .fresh 0 } }) ∧
    exec .frameEnd s = .next s.frameEnded ∧
    (∀ kind : BitVec 8, s.frameAccepts = true → kind.toNat = 0 ∨ 4 < kind.toNat →
      exec (.unknownFrameKind kind) s = .next { s with
        pins := { s.pins with ssnLow := true },
        mgmt := { s.mgmt with frame := .running .unknown 8, accessError := true } }) ∧
    (∀ code : BitVec 8, s.CommandReady → code ∉ commandCodes →
      exec (.unknownCommand code) s = .next ((s.taken code).answer .unknown)) ∧
    (∀ (code : BitVec 8) (index : BitVec 16), s.frameAccepts = true →
      (∀ w, windowOfCode code = some w →
        exec (.select code index) s = .next { s.frameEnded with
          mgmt := { s.frameEnded.mgmt with window := w, pointer := min index.toNat w.lastIndex } }) ∧
      (windowOfCode code = none →
        exec (.select code index) s = .next { s.frameEnded with
          mgmt := { s.frameEnded.mgmt with window := .none, pointer := 0, accessError := true } }))) ∧
  (∀ code : BitVec 8, windowOfCode code =
    if code = 0x10 then some .config else if code = 0x11 then some .status
    else if code = 0x12 then some .migration else if code = 0x13 then some .repair
    else if code = 0x14 then some .slots else if code = 0x15 then some .watch
    else if code = 0x16 then some .retq else if code = 0x17 then some .log
    else if code = 0x18 then some .diag else none) ∧
  [Window.config, .status, .migration, .repair, .slots, .watch, .retq, .log, .diag].map Window.lastIndex =
    [5, 10, 2, 127, 63, 15, 3, 3, 3] ∧
  commandCodes =
    [0x20, 0x21, 0x22, 0x23, 0x30, 0x31, 0x38, 0x40, 0x41, 0x48, 0x50, 0x51, 0x52, 0x60, 0x61, 0x62, 0x6F] ∧
  (∀ (a b : MgmtWord) (extra : List (BitVec 8)),
    frameRow (0x04 :: 0x20 :: wordBytes a ++ wordBytes b ++ extra) = some (.map a b) ∧
    ([0x21, 0x22, 0x23, 0x30, 0x31, 0x38, 0x40].map fun code => frameRow (0x04 :: code :: wordBytes a ++ extra)) =
      [.unmap a, .slotFree a, .slotBad a, .peek a, .poke a, .scrubSeek a, .retire a].map some ∧
    ([0x41, 0x48, 0x50, 0x51, 0x52, 0x60, 0x61, 0x62, 0x6F].map fun code => frameRow (0x04 :: code :: extra)) =
      [.clearWatch, .cancelMigration, .popLog, .clearLog, .clearSummary, .openArray, .closeArray, .fillArray,
        .softReset].map some ∧
    (∀ code ∉ commandCodes, frameRow (0x04 :: code :: extra) = some (.unknownCommand code)) ∧
    (∀ (code : BitVec 8) (index : BitVec 16),
      frameRow (0x01 :: code :: index.extractLsb' 8 8 :: index.extractLsb' 0 8 :: extra) =
        some (.select code index)) ∧
    (∀ kind : BitVec 8, kind.toNat = 0 ∨ 4 < kind.toNat → frameRow (kind :: extra) = some (.unknownFrameKind kind)) ∧
    wordsOf (wordBytes a ++ extra) = a :: wordsOf extra) ∧
  (∀ bytes : List (BitVec 8),
    frameRow [] = none ∧ frameRow [0x04] = none ∧
    (bytes.length < 3 → frameRow (0x01 :: bytes) = none) ∧
    (bytes.length < 8 → frameRow (0x04 :: 0x20 :: bytes) = none) ∧
    (bytes.length < 4 → wordsOf bytes = [] ∧
      ∀ code ∈ ([0x21, 0x22, 0x23, 0x30, 0x31, 0x38, 0x40] : List (BitVec 8)), frameRow (0x04 :: code :: bytes) = none) ∧
    frameRow (0x02 :: bytes) = none ∧ frameRow (0x03 :: bytes) = none)

/-- READ_WORD (R171, R172): the holder goes to MISO, the holder is loaded from the window at the pointer, and the pointer
advances but not beyond the last index. -/
def Obligations.ReadWordShiftsTheHolder : Prop :=
  ∀ (s : State) (n : Nat), s.pins.resetLow = false →
    (s.frameAccepts = true ∧ n = 8 ∨
      s.pins.ssnLow = true ∧ ∃ m, s.mgmt.frame = .running .read m ∧ n = m + 32) →
    ∃ t, exec .readWord s = .next t ∧
      t = { s with
        pins := { s.pins with ssnLow := true },
        mgmt := { s.mgmt with
          frame := .running .read n, shiftPath := s.mgmt.holder,
          holder := s.windowWord s.mgmt.window s.mgmt.pointer,
          pointer :=
            if s.mgmt.pointer < s.mgmt.window.lastIndex then s.mgmt.pointer + 1 else s.mgmt.pointer } } ∧
      t.misoWord = some s.mgmt.holder

/-- WRITE_WORD at CONFIG, and SCRUB_INTERVAL_WRITE, TIMEBASE_DIV_WRITE and ALERT_MASK_WRITE (R173, R174, R175, R61, R63, R130):
a value in range is taken with its effect, one out of range sets ACCESS_ERROR; the pointer advances all the same. A row
given with SSN high begins its own WRITE frame (the model's choice, log 10). A TIMEBASE_DIV write that meets an increase already
due cancels it (the model's choice, log 26). -/
def Obligations.ConfigWordsTakeValuesInRange : Prop :=
  ∀ (s : State) (v : MgmtWord) (n : Nat), s.pins.resetLow = false → s.mgmt.window = .config →
    (s.frameAccepts = true ∧ n = 40 ∨
      s.pins.ssnLow = true ∧ ∃ m, s.mgmt.frame = .running .write m ∧ n = m + 32) →
    let t : State := { s with
      pins := { s.pins with ssnLow := true },
      mgmt := { s.mgmt with frame := .running .write n, pointer := min (s.mgmt.pointer + 1) 5 } }
    let refused : State := { t with mgmt := { t.mgmt with accessError := true } }
    (s.mgmt.pointer = 0 → exec (.writeWord v) s =
      .next (if v.toNat ≤ 15 then { t with config := { s.config with ceThreshold := v.toNat } } else refused)) ∧
    (s.mgmt.pointer = 1 → ∀ c, c = .writeWord v ∨ c = .scrubIntervalWrite v → exec c s =
      .next (if v.toNat ≤ 65535 then
        { t with
          config := { s.config with scrubInterval := v.toNat },
          scrub := { s.scrub with
            timer := if s.lifecycle.isFilling = true ∨ v.toNat = 0 then none else some 0 } }
        else refused)) ∧
    (s.mgmt.pointer = 2 → exec (.writeWord v) s =
      .next (if v.toNat ≤ 1 then { t with config := { s.config with readWriteback := decide (v.toNat = 1) } }
        else refused)) ∧
    (s.mgmt.pointer = 3 → ∀ c, c = .writeWord v ∨ c = .alertMaskWrite v → exec c s =
      .next (if v.toNat ≤ 255 then { t with config := { s.config with alertMask := v.setWidth 8 } } else refused)) ∧
    (s.mgmt.pointer = 4 → ∀ c, c = .writeWord v ∨ c = .timebaseDivWrite v → exec c s =
      .next (if 1 ≤ v.toNat ∧ v.toNat ≤ 255 then
        { t with
          config := { s.config with timebaseDiv := v.toNat }, scrub := { s.scrub with periodCount := 0 } }
        else refused)) ∧
    (s.mgmt.pointer = 5 → exec (.writeWord v) s =
      .next (if 1 ≤ v.toNat ∧ v.toNat ≤ 15 then { t with config := { s.config with migrationFairness := v.toNat } }
        else refused))

/-- WRITE_WORD at every other window (R173, R174, R176): DIAG takes its data and a check byte up to FFh; DIAG index 3, NONE and
the read-only windows take nothing and set ACCESS_ERROR; the pointer advances all the same. A row given with SSN high
begins its own WRITE frame (the model's choice, log 10). -/
def Obligations.OtherWindowsTakeDiagOnly : Prop :=
  ∀ (s : State) (v : MgmtWord) (n : Nat), s.pins.resetLow = false →
    (s.frameAccepts = true ∧ n = 40 ∨
      s.pins.ssnLow = true ∧ ∃ m, s.mgmt.frame = .running .write m ∧ n = m + 32) →
    let t : State := { s with
      pins := { s.pins with ssnLow := true },
      mgmt := { s.mgmt with
        frame := .running .write n,
        pointer := if s.mgmt.pointer < s.mgmt.window.lastIndex then s.mgmt.pointer + 1 else s.mgmt.pointer } }
    let refused : State := { t with mgmt := { t.mgmt with accessError := true } }
    (s.mgmt.window ≠ .config → s.mgmt.window ≠ .diag → exec (.writeWord v) s = .next refused) ∧
    (s.mgmt.window = .diag →
      (s.mgmt.pointer = 0 → ∃ u, exec (.writeWord v) s = .next u ∧
        u = { t with mgmt := { t.mgmt with diag := { s.mgmt.diag with data := u.mgmt.diag.data } } } ∧
        u.mgmt.diag.data.extractLsb' 0 32 = v ∧
        u.mgmt.diag.data.extractLsb' 32 32 = s.mgmt.diag.data.extractLsb' 32 32) ∧
      (s.mgmt.pointer = 1 → ∃ u, exec (.writeWord v) s = .next u ∧
        u = { t with mgmt := { t.mgmt with diag := { s.mgmt.diag with data := u.mgmt.diag.data } } } ∧
        u.mgmt.diag.data.extractLsb' 32 32 = v ∧
        u.mgmt.diag.data.extractLsb' 0 32 = s.mgmt.diag.data.extractLsb' 0 32) ∧
      (s.mgmt.pointer = 2 → exec (.writeWord v) s =
        .next (if v.toNat ≤ 255 then
          { t with mgmt := { t.mgmt with diag := { s.mgmt.diag with check := v.setWidth 8 } } } else refused)) ∧
      (s.mgmt.pointer = 3 → exec (.writeWord v) s = .next refused))

/-- Every word of every window (R33, R92, R116, R135, R169, R172, R175 to R177, R185, R186), bit for bit: each field in its bits, as
an unsigned number, with its codes; every bit not named 0; an element that is not there, an inactive context, a clear
latch, an empty log and the window NONE all zero. What STATUS 7 shows while the latch is set without a logical address
is left out (the model's choice, log 28), and so is the owner field of a watched word without an owner (log 21). -/
def Obligations.WindowWordsHoldTheirFields : Prop :=
  ∀ s : State,
    (s.windowWord .config 0 = 0#28 ++ BitVec.ofNat 4 s.config.ceThreshold ∧
      s.windowWord .config 1 = 0#16 ++ BitVec.ofNat 16 s.config.scrubInterval ∧
      s.windowWord .config 2 = 0#31 ++ BitVec.ofBool s.config.readWriteback ∧
      s.windowWord .config 3 = 0#24 ++ s.config.alertMask ∧
      s.windowWord .config 4 = 0#24 ++ BitVec.ofNat 8 s.config.timebaseDiv ∧
      s.windowWord .config 5 = 0#28 ++ BitVec.ofNat 4 s.config.migrationFairness) ∧
    (s.windowWord .status 0 =
        0#17 ++ BitVec.ofNat 7 ((List.finRange 64).filter fun k => s.tu.pool[k] = .free).length ++
        BitVec.ofNat 4 s.queue.length ++ 0#1 ++
        (match s.lifecycle with | .draining (.filling _) => 1#1 | _ => 0#1) ++
        (match s.lifecycle with | .filling _ => 0#2 | .hold => 1#2 | .opened => 2#2 | .draining _ => 3#2) ∧
      s.windowWord .status 1 = 0#7 ++ BitVec.ofNat 25 s.fillCursor ∧
      s.windowWord .status 2 = 0#5 ++ BitVec.ofNat 3 s.scrub.credit ++ BitVec.ofNat 24 s.scrub.cursor ∧
      s.windowWord .status 3 = 0#11 ++ BitVec.ofNat 5 s.log.records.length ++ s.scrub.passes ∧
      s.windowWord .status 4 = 0#17 ++ s.log.flags ++ BitVec.ofNat 8 s.log.dropped ∧
      s.windowWord .status 5 = s.scrub.microseconds ∧
      (s.log.firstUE = none → s.windowWord .status 6 = 0 ∧ s.windowWord .status 7 = 0) ∧
      (∀ u, s.log.firstUE = some u →
        s.windowWord .status 6 =
          1#1 ++ BitVec.ofBool u.owner.isSome ++ 0#2 ++
          (match u.finder with | .host => 5#4 | .merge => 6#4 | .scrub => 7#4 | .migrate _ => 8#4) ++
          BitVec.ofNat 24 u.physical ∧
        ∀ l, u.owner = some l → s.windowWord .status 7 = 0#8 ++ BitVec.ofNat 24 l) ∧
      s.windowWord .status 8 =
        BitVec.ofBool s.mgmt.busy ++ BitVec.ofBool s.mgmt.lost ++ BitVec.ofBool s.mgmt.accessError ++ 0#17 ++
        (match s.mgmt.lastResult with
          | .none => 0#4 | .ok => 1#4 | .state => 3#4 | .range => 4#4 | .mapped => 5#4 | .unmapped => 6#4
          | .slotState => 7#4 | .full => 8#4 | .duplicate => 9#4 | .inMigration => 10#4 | .empty => 11#4
          | .unknown => 12#4) ++ s.mgmt.lastCode ∧
      s.windowWord .status 9 = 0#7 ++ BitVec.ofNat 25 s.W ∧ s.windowWord .status 10 = 0#8 ++ BitVec.ofNat 24 s.H) ∧
    ((s.migration = none → ∀ i, s.windowWord .migration i = 0) ∧
      (∀ c, s.migration = some c →
        s.windowWord .migration 0 =
          1#1 ++ (match c.phase with | .copyRead => 0#2 | .copyWrite => 1#2 | .verify => 2#2) ++
          BitVec.ofBool c.dirty ++ BitVec.ofBool c.pinned ++ (match c.origin with | .watch => 0#1 | .command => 1#1) ++
          BitVec.ofNat 2 c.restarts ++ BitVec.ofNat 24 c.logical ∧
        s.windowWord .migration 1 = 0#8 ++ BitVec.ofNat 24 c.source ∧
        s.windowWord .migration 2 = 0#26 ++ BitVec.ofNat 6 c.target.val)) ∧
    (∀ k : Fin 64,
      (s.tu.table[k] = none → s.windowWord .repair (2 * k.val) = 0 ∧ s.windowWord .repair (2 * k.val + 1) = 0) ∧
      (∀ e, s.tu.table[k] = some e →
        s.windowWord .repair (2 * k.val) =
          1#1 ++ (match e.origin with | .loaded => 0#1 | .migrated => 1#1) ++ 0#2 ++ BitVec.ofNat 4 e.moves ++
          BitVec.ofNat 24 e.logical ∧
        s.windowWord .repair (2 * k.val + 1) = 1#1 ++ 0#7 ++ BitVec.ofNat 24 (s.H + k.val)) ∧
      s.windowWord .slots k.val =
        0#30 ++ (match s.tu.pool[k] with | .free => 0#2 | .reserved => 1#2 | .inUse => 2#2 | .bad => 3#2)) ∧
    (∀ i : Nat,
      (s.watch[i]? = none → s.windowWord .watch (2 * i) = 0 ∧ s.windowWord .watch (2 * i + 1) = 0) ∧
      (∀ e, s.watch[i]? = some e →
        s.windowWord .watch (2 * i) =
          1#1 ++ (match e.state with
            | .counting => 0#3 | .due => 1#3 | .queued => 2#3 | .migrating => 3#3 | .stuck => 4#3) ++
          BitVec.ofNat 4 e.count ++ BitVec.ofNat 24 e.physical ∧
        ∀ l, s.owner e.physical = some l → s.windowWord .watch (2 * i + 1) = 1#1 ++ 0#7 ++ BitVec.ofNat 24 l) ∧
      (s.retq[i]? = none → s.windowWord .retq i = 0) ∧
      (∀ r, s.retq[i]? = some r →
        s.windowWord .retq i =
          1#1 ++ (match r.origin with | .watch => 0#1 | .command => 1#1) ++ 0#6 ++ BitVec.ofNat 24 r.logical)) ∧
    ((s.log.records = [] → ∀ i, s.windowWord .log i = 0) ∧
      (∀ r rest, s.log.records = r :: rest →
        let foundBy := fun f : Finder =>
          match f with | .host => 1#4 | .merge => 2#4 | .scrub => 3#4 | .migrate _ => 4#4
        let classOf := fun c : WordClass =>
          match c with
          | .clean => 0#2 | .correctable => 1#2 | .uncorrectable .double => 2#2 | .uncorrectable .multi => 3#2
        let shows := fun (severe : Bool) (kind : BitVec 4) (logical : Option Nat) (word2 : MgmtWord) (top3 : BitVec 8) =>
          s.windowWord .log 0 =
            1#1 ++ BitVec.ofBool severe ++ BitVec.ofBool logical.isSome ++ 0#1 ++ kind ++ BitVec.ofNat 8 r.repeats ++
            r.seqNo ∧
          s.windowWord .log 1 = r.time ∧ s.windowWord .log 2 = word2 ∧
          s.windowWord .log 3 = top3 ++ BitVec.ofNat 24 (logical.getD 0)
        match r.offer with
        | .ce f p b syn => shows false (foundBy f) r.owner (syn ++ BitVec.ofNat 24 p) (0#1 ++ BitVec.ofNat 7 b)
        | .ue f p syn => shows true (foundBy f + 4) r.owner (syn ++ BitVec.ofNat 24 p) 0
        | .spareFail k l c => shows false 9 (some l) (0#22 ++ classOf c ++ 0#2 ++ BitVec.ofNat 6 k.val) 0
        | .migrationDone l old k => shows false 10 (some l) (0#2 ++ BitVec.ofNat 6 k.val ++ BitVec.ofNat 24 old) 0
        | .migrationAbandoned l cause k =>
          shows true 11 (some l)
            (0#22 ++ (match cause with | .sourceUE => 0#2 | .cancel => 1#2 | .fill => 2#2) ++ 0#2 ++
              BitVec.ofNat 6 k.val) 0
        | .slotsExhausted l => shows true 12 (some l) 0 0
        | .scrubOverrun => shows false 13 none 0 0
        | .hostRefused a why tag =>
          shows false 14 (some a.toNat) (0#22 ++ (match why with | .malformed => 1#2 | .range => 2#2) ++ 0#4 ++ tag) 0)) ∧
    (s.windowWord .diag 0 = s.mgmt.diag.data.extractLsb' 0 32 ∧
      s.windowWord .diag 1 = s.mgmt.diag.data.extractLsb' 32 32 ∧
      s.windowWord .diag 2 = 0#24 ++ s.mgmt.diag.check ∧
      s.windowWord .diag 3 =
        0#22 ++ (match s.mgmt.diag.found with
          | .clean => 0#2 | .correctable => 1#2 | .uncorrectable .double => 2#2 | .uncorrectable .multi => 3#2) ++
        s.mgmt.diag.syndrome) ∧
    ∀ i, s.windowWord .none i = 0

/-! ## Invariants: kept by every step, from every state that meets them -/

/-- The array list keeps its canonical form. -/
def Obligations.ArrayStaysCanonical : Prop :=
  ∀ s t : State, s.ArrayCanonical → step s = .next t → t.ArrayCanonical

/-- Config words stay in range, and the interval timer runs exactly when it should (R60, R62, R175); credit, streak, cursor and
step target stay in range, and a scrub tenure runs exactly while a step is in progress (R43, R64, R67, R71). -/
def Obligations.TimebaseAndScrubberStaySound : Prop :=
  (∀ s t : State, s.TimebaseSound → step s = .next t → t.TimebaseSound) ∧
  (∀ s t : State, s.ScrubberSound → step s = .next t → t.ScrubberSound)

/-- A slot is IN_USE exactly when one entry names it, RESERVED exactly while it is the active migration's target (R19, R21,
R22). -/
def Obligations.PoolKeepsAgreeing : Prop :=
  ∀ s t : State, s.PoolAgrees → step s = .next t → t.PoolAgrees

/-- The Error Log keeps its bounds, DROPPED its tie to the dropped count, and the newest record its number (R117, R120, R126,
R128). -/
def Obligations.LogStaysSound : Prop :=
  ∀ s t : State, s.LogSound → step s = .next t → t.LogSound

/-- The Retirement Queue and the Watch List keep their bounds and stay without repetitions (R78, R83). -/
def Obligations.AccountingStaysSound : Prop :=
  ∀ s t : State, s.RetirementSound ∧ s.WatchSound → step s = .next t → t.RetirementSound ∧ t.WatchSound

/-- The request queue keeps its order and its places stay sound (R141, R145, R150). -/
def Obligations.QueueStaysSound : Prop :=
  ∀ s t : State, s.QueueSound → step s = .next t → t.QueueSound

/-- The migration stays sound: while it is pinned no write to its word is in tenure (R41, R94, R95, R107). -/
def Obligations.MigrationStaysSound : Prop :=
  ∀ s t : State, s.QueueSound ∧ s.MigrationSound → step s = .next t → t.MigrationSound

/-- Lifecycle state, command state, PEEK and POKE and the fill stay in step (R40, R54, R73, R155, R163, R179). -/
def Obligations.LifecycleStaysSound : Prop :=
  ∀ s t : State, s.LifecycleSound → step s = .next t → t.LifecycleSound

/-- The pointer never stands beyond the selected window's last index, no frame runs while SSN is high, and nothing is under
way while RESET_N is low (R58, R168, R169). -/
def Obligations.PortAndResetStaySound : Prop :=
  ∀ s t : State, s.PortSound ∧ s.ResetQuiet → step s = .next t → t.PortSound ∧ t.ResetQuiet

/-- The Watch List keeps agreeing with the table, the Retirement Queue and the migration (R78, R79, R83 to R87). -/
def Obligations.WatchKeepsAgreeing : Prop :=
  ∀ s t : State, s.WatchAgrees → step s = .next t → t.WatchAgrees

/-- Every array access reaches a word that exists: from a sound state every command answers a next state, again a sound one,
so that every run is safe (R16, R143). -/
def Obligations.EveryAccessExists : Prop :=
  (∀ (c : Instr) (s : State), s.AccessSound → ∃ t, exec c s = .next t ∧ t.AccessSound) ∧
  (∀ (n : Nat) (s : State), s.AccessSound → SafeRun n s)

/-- Every invariant holds of the machine right after reset (straps at the model's choice, log 1). -/
def Obligations.InvariantsHoldAtReset : Prop :=
  State.reset.ArrayCanonical ∧ State.reset.TimebaseSound ∧ State.reset.ScrubberSound ∧ State.reset.PoolAgrees ∧
  State.reset.LogSound ∧ State.reset.RetirementSound ∧ State.reset.WatchSound ∧ State.reset.QueueSound ∧
  State.reset.MigrationSound ∧ State.reset.LifecycleSound ∧ State.reset.PortSound ∧ State.reset.ResetQuiet ∧
  State.reset.WatchAgrees ∧ State.reset.AccessSound
end

