-- ==== Sys2Proof/Laws/ArrayMemory.lean ====
section
/-! SUPPORT. The laws of the array: a read after a write, and the canonical form that every write keeps. -/

namespace Sys2Proof.Machine

@[simp] theorem arrayRead_nil (p : Nat) : arrayRead [] p = unlistedWord := rfl

@[simp] theorem arrayRead_cons (q : Nat) (w : ArrayWord) (m : List ArrayCell) (p : Nat) :
    arrayRead ((q, w) :: m) p = if q = p then w else arrayRead m p := rfl

@[simp] theorem arrayAbove_nil (p : Nat) : arrayAbove p [] = true := rfl

@[simp] theorem arrayAbove_cons (p q : Nat) (w : ArrayWord) (m : List ArrayCell) :
    (arrayAbove p ((q, w) :: m) = true) = (p < q ∧ arrayAbove p m = true) := by
  simp [arrayAbove]

theorem arrayAbove_trans {p q : Nat} {m : List ArrayCell} (h : p < q) (hq : arrayAbove q m = true) :
    arrayAbove p m = true := by
  induction m with
  | nil => rfl
  | cons c m ih =>
    obtain ⟨a, v⟩ := c
    simp only [arrayAbove_cons] at hq ⊢
    exact ⟨by omega, ih hq.2⟩

/-- An address that no cell reaches reads as the unlisted word. -/
theorem arrayRead_of_above {p : Nat} {m : List ArrayCell} (h : arrayAbove p m = true) :
    arrayRead m p = unlistedWord := by
  induction m with
  | nil => rfl
  | cons c m ih =>
    obtain ⟨a, v⟩ := c
    simp only [arrayAbove_cons] at h
    rw [arrayRead_cons, if_neg (by omega)]
    exact ih h.2

/-- A write leaves every other word as it was. -/
theorem arrayRead_write_other {m : List ArrayCell} {p q : Nat} {w : ArrayWord} (h : q ≠ p) :
    arrayRead (arrayWrite m p w) q = arrayRead m q := by
  induction m with
  | nil => by_cases hw : w = unlistedWord <;> simp [arrayWrite, hw, Ne.symm h]
  | cons c m ih =>
    obtain ⟨a, v⟩ := c
    unfold arrayWrite
    split
    · split <;> simp [Ne.symm h]
    · split
      · rename_i hp
        subst hp
        split <;> simp [Ne.symm h]
      · simp [ih]

/-- In an array of canonical form, a read after a write at the same address gives the word written. -/
theorem arrayRead_write_same {m : List ArrayCell} {p : Nat} {w : ArrayWord} (h : arrayWf m = true) :
    arrayRead (arrayWrite m p w) p = w := by
  induction m with
  | nil => by_cases hw : w = unlistedWord <;> simp [arrayWrite, hw]
  | cons c m ih =>
    obtain ⟨a, v⟩ := c
    simp only [arrayWf, Bool.and_eq_true] at h
    obtain ⟨⟨-, ha⟩, hm⟩ := h
    unfold arrayWrite
    split
    · rename_i hp
      split
      · rename_i hw
        rw [arrayRead_cons, if_neg (by omega), hw]
        exact arrayRead_of_above (arrayAbove_trans hp ha)
      · simp
    · split
      · rename_i hp
        subst hp
        split
        · rename_i hw
          rw [hw]
          exact arrayRead_of_above ha
        · simp
      · rename_i hne
        rw [arrayRead_cons, if_neg (Ne.symm hne)]
        exact ih hm

theorem arrayAbove_write {m : List ArrayCell} {p a : Nat} {w : ArrayWord} (hp : a < p)
    (h : arrayAbove a m = true) : arrayAbove a (arrayWrite m p w) = true := by
  induction m with
  | nil => by_cases hw : w = unlistedWord <;> simp [arrayWrite, hw, hp]
  | cons c m ih =>
    obtain ⟨b, v⟩ := c
    simp only [arrayAbove_cons] at h
    unfold arrayWrite
    split
    · split <;> simp [hp, h]
    · split
      · split <;> simp [hp, h]
      · simp [h.1, ih h.2]

/-- A write keeps the canonical form. -/
theorem arrayWf_write {m : List ArrayCell} {p : Nat} {w : ArrayWord} (h : arrayWf m = true) :
    arrayWf (arrayWrite m p w) = true := by
  induction m with
  | nil => by_cases hw : w = unlistedWord <;> simp [arrayWrite, hw, arrayWf, arrayAbove]
  | cons c m ih =>
    obtain ⟨a, v⟩ := c
    have h' := h
    simp only [arrayWf, Bool.and_eq_true] at h
    obtain ⟨⟨hv, ha⟩, hm⟩ := h
    unfold arrayWrite
    split
    · rename_i hp
      split
      · exact h'
      · rename_i hw
        simp [arrayWf, hw, hp, arrayAbove_trans hp ha] at h' ⊢
        exact h'
    · split
      · rename_i hp
        subst hp
        split
        · exact hm
        · rename_i hw
          simp [arrayWf, hw, ha, hm]
      · rename_i h1 h2
        have := arrayAbove_write (w := w) (show a < p by omega) ha
        simp [arrayWf, this, ih hm] at hv ⊢
        exact hv

/-- The array has its canonical form after reset. -/
theorem reset_arrayWf : arrayWf State.reset.array = true := rfl

/-- The one operation on the array of a state keeps the canonical form. -/
theorem State.store_arrayWf {s : State} {p : Nat} {w : ArrayWord} (h : arrayWf s.array = true) :
    arrayWf (s.store p w).array = true := arrayWf_write h

end Sys2Proof.Machine
end

