-- ==== Sys2Proof/Laws/State.lean ====
section
/-! SUPPORT. One lemma per field per update: what each named update of State leaves in each field. -/

namespace Sys2Proof.Machine

variable (s : State)

/-! ### store -/

@[simp] theorem State.store_pins (p : Nat) (w : ArrayWord) :
    (s.store p w).pins = s.pins := rfl
@[simp] theorem State.store_array (p : Nat) (w : ArrayWord) :
    (s.store p w).array = arrayWrite s.array p w := rfl
@[simp] theorem State.store_tu (p : Nat) (w : ArrayWord) :
    (s.store p w).tu = s.tu := rfl
@[simp] theorem State.store_seq (p : Nat) (w : ArrayWord) :
    (s.store p w).seq = s.seq := rfl
@[simp] theorem State.store_scrub (p : Nat) (w : ArrayWord) :
    (s.store p w).scrub = s.scrub := rfl
@[simp] theorem State.store_watch (p : Nat) (w : ArrayWord) :
    (s.store p w).watch = s.watch := rfl
@[simp] theorem State.store_retq (p : Nat) (w : ArrayWord) :
    (s.store p w).retq = s.retq := rfl
@[simp] theorem State.store_reports (p : Nat) (w : ArrayWord) :
    (s.store p w).reports = s.reports := rfl
@[simp] theorem State.store_migration (p : Nat) (w : ArrayWord) :
    (s.store p w).migration = s.migration := rfl
@[simp] theorem State.store_log (p : Nat) (w : ArrayWord) :
    (s.store p w).log = s.log := rfl
@[simp] theorem State.store_offers (p : Nat) (w : ArrayWord) :
    (s.store p w).offers = s.offers := rfl
@[simp] theorem State.store_queue (p : Nat) (w : ArrayWord) :
    (s.store p w).queue = s.queue := rfl
@[simp] theorem State.store_lifecycle (p : Nat) (w : ArrayWord) :
    (s.store p w).lifecycle = s.lifecycle := rfl
@[simp] theorem State.store_fillCursor (p : Nat) (w : ArrayWord) :
    (s.store p w).fillCursor = s.fillCursor := rfl
@[simp] theorem State.store_mgmt (p : Nat) (w : ArrayWord) :
    (s.store p w).mgmt = s.mgmt := rfl
@[simp] theorem State.store_config (p : Nat) (w : ArrayWord) :
    (s.store p w).config = s.config := rfl
@[simp] theorem State.store_freeCount (p : Nat) (w : ArrayWord) :
    (s.store p w).freeCount = s.freeCount := rfl
@[simp] theorem State.store_pending (p : Nat) (w : ArrayWord) :
    (s.store p w).pending = s.pending := rfl

/-! ### setSlot -/

@[simp] theorem State.setSlot_pins (k : Fin 64) (st : SlotState) :
    (s.setSlot k st).pins = s.pins := rfl
@[simp] theorem State.setSlot_array (k : Fin 64) (st : SlotState) :
    (s.setSlot k st).array = s.array := rfl
@[simp] theorem State.setSlot_tu (k : Fin 64) (st : SlotState) :
    (s.setSlot k st).tu = { s.tu with pool := s.tu.pool.set k st } := rfl
@[simp] theorem State.setSlot_seq (k : Fin 64) (st : SlotState) :
    (s.setSlot k st).seq = s.seq := rfl
@[simp] theorem State.setSlot_scrub (k : Fin 64) (st : SlotState) :
    (s.setSlot k st).scrub = s.scrub := rfl
@[simp] theorem State.setSlot_watch (k : Fin 64) (st : SlotState) :
    (s.setSlot k st).watch = s.watch := rfl
@[simp] theorem State.setSlot_retq (k : Fin 64) (st : SlotState) :
    (s.setSlot k st).retq = s.retq := rfl
@[simp] theorem State.setSlot_reports (k : Fin 64) (st : SlotState) :
    (s.setSlot k st).reports = s.reports := rfl
@[simp] theorem State.setSlot_migration (k : Fin 64) (st : SlotState) :
    (s.setSlot k st).migration = s.migration := rfl
@[simp] theorem State.setSlot_log (k : Fin 64) (st : SlotState) :
    (s.setSlot k st).log = s.log := rfl
@[simp] theorem State.setSlot_offers (k : Fin 64) (st : SlotState) :
    (s.setSlot k st).offers = s.offers := rfl
@[simp] theorem State.setSlot_queue (k : Fin 64) (st : SlotState) :
    (s.setSlot k st).queue = s.queue := rfl
@[simp] theorem State.setSlot_lifecycle (k : Fin 64) (st : SlotState) :
    (s.setSlot k st).lifecycle = s.lifecycle := rfl
@[simp] theorem State.setSlot_fillCursor (k : Fin 64) (st : SlotState) :
    (s.setSlot k st).fillCursor = s.fillCursor := rfl
@[simp] theorem State.setSlot_mgmt (k : Fin 64) (st : SlotState) :
    (s.setSlot k st).mgmt = s.mgmt := rfl
@[simp] theorem State.setSlot_config (k : Fin 64) (st : SlotState) :
    (s.setSlot k st).config = s.config := rfl
@[simp] theorem State.setSlot_freeCount (k : Fin 64) (st : SlotState) :
    (s.setSlot k st).freeCount = s.freeCount := rfl
@[simp] theorem State.setSlot_pending (k : Fin 64) (st : SlotState) :
    (s.setSlot k st).pending = s.pending := rfl

/-! ### setEntry -/

@[simp] theorem State.setEntry_pins (k : Fin 64) (e : Option RepairEntry) :
    (s.setEntry k e).pins = s.pins := rfl
@[simp] theorem State.setEntry_array (k : Fin 64) (e : Option RepairEntry) :
    (s.setEntry k e).array = s.array := rfl
@[simp] theorem State.setEntry_tu (k : Fin 64) (e : Option RepairEntry) :
    (s.setEntry k e).tu = { s.tu with table := s.tu.table.set k e } := rfl
@[simp] theorem State.setEntry_seq (k : Fin 64) (e : Option RepairEntry) :
    (s.setEntry k e).seq = s.seq := rfl
@[simp] theorem State.setEntry_scrub (k : Fin 64) (e : Option RepairEntry) :
    (s.setEntry k e).scrub = s.scrub := rfl
@[simp] theorem State.setEntry_watch (k : Fin 64) (e : Option RepairEntry) :
    (s.setEntry k e).watch = s.watch := rfl
@[simp] theorem State.setEntry_retq (k : Fin 64) (e : Option RepairEntry) :
    (s.setEntry k e).retq = s.retq := rfl
@[simp] theorem State.setEntry_reports (k : Fin 64) (e : Option RepairEntry) :
    (s.setEntry k e).reports = s.reports := rfl
@[simp] theorem State.setEntry_migration (k : Fin 64) (e : Option RepairEntry) :
    (s.setEntry k e).migration = s.migration := rfl
@[simp] theorem State.setEntry_log (k : Fin 64) (e : Option RepairEntry) :
    (s.setEntry k e).log = s.log := rfl
@[simp] theorem State.setEntry_offers (k : Fin 64) (e : Option RepairEntry) :
    (s.setEntry k e).offers = s.offers := rfl
@[simp] theorem State.setEntry_queue (k : Fin 64) (e : Option RepairEntry) :
    (s.setEntry k e).queue = s.queue := rfl
@[simp] theorem State.setEntry_lifecycle (k : Fin 64) (e : Option RepairEntry) :
    (s.setEntry k e).lifecycle = s.lifecycle := rfl
@[simp] theorem State.setEntry_fillCursor (k : Fin 64) (e : Option RepairEntry) :
    (s.setEntry k e).fillCursor = s.fillCursor := rfl
@[simp] theorem State.setEntry_mgmt (k : Fin 64) (e : Option RepairEntry) :
    (s.setEntry k e).mgmt = s.mgmt := rfl
@[simp] theorem State.setEntry_config (k : Fin 64) (e : Option RepairEntry) :
    (s.setEntry k e).config = s.config := rfl
@[simp] theorem State.setEntry_freeCount (k : Fin 64) (e : Option RepairEntry) :
    (s.setEntry k e).freeCount = s.freeCount := rfl
@[simp] theorem State.setEntry_pending (k : Fin 64) (e : Option RepairEntry) :
    (s.setEntry k e).pending = s.pending := rfl

/-! ### setWatch -/

@[simp] theorem State.setWatch_pins (p : Nat) (st : WatchState) :
    (s.setWatch p st).pins = s.pins := rfl
@[simp] theorem State.setWatch_array (p : Nat) (st : WatchState) :
    (s.setWatch p st).array = s.array := rfl
@[simp] theorem State.setWatch_tu (p : Nat) (st : WatchState) :
    (s.setWatch p st).tu = s.tu := rfl
@[simp] theorem State.setWatch_seq (p : Nat) (st : WatchState) :
    (s.setWatch p st).seq = s.seq := rfl
@[simp] theorem State.setWatch_scrub (p : Nat) (st : WatchState) :
    (s.setWatch p st).scrub = s.scrub := rfl
@[simp] theorem State.setWatch_watch (p : Nat) (st : WatchState) :
    (s.setWatch p st).watch = s.watch.map fun e => if e.physical = p then { e with state := st } else e := rfl
@[simp] theorem State.setWatch_retq (p : Nat) (st : WatchState) :
    (s.setWatch p st).retq = s.retq := rfl
@[simp] theorem State.setWatch_reports (p : Nat) (st : WatchState) :
    (s.setWatch p st).reports = s.reports := rfl
@[simp] theorem State.setWatch_migration (p : Nat) (st : WatchState) :
    (s.setWatch p st).migration = s.migration := rfl
@[simp] theorem State.setWatch_log (p : Nat) (st : WatchState) :
    (s.setWatch p st).log = s.log := rfl
@[simp] theorem State.setWatch_offers (p : Nat) (st : WatchState) :
    (s.setWatch p st).offers = s.offers := rfl
@[simp] theorem State.setWatch_queue (p : Nat) (st : WatchState) :
    (s.setWatch p st).queue = s.queue := rfl
@[simp] theorem State.setWatch_lifecycle (p : Nat) (st : WatchState) :
    (s.setWatch p st).lifecycle = s.lifecycle := rfl
@[simp] theorem State.setWatch_fillCursor (p : Nat) (st : WatchState) :
    (s.setWatch p st).fillCursor = s.fillCursor := rfl
@[simp] theorem State.setWatch_mgmt (p : Nat) (st : WatchState) :
    (s.setWatch p st).mgmt = s.mgmt := rfl
@[simp] theorem State.setWatch_config (p : Nat) (st : WatchState) :
    (s.setWatch p st).config = s.config := rfl
@[simp] theorem State.setWatch_freeCount (p : Nat) (st : WatchState) :
    (s.setWatch p st).freeCount = s.freeCount := rfl
@[simp] theorem State.setWatch_pending (p : Nat) (st : WatchState) :
    (s.setWatch p st).pending = s.pending := rfl

/-! ### dropWatch -/

@[simp] theorem State.dropWatch_pins (p : Nat) :
    (s.dropWatch p).pins = s.pins := rfl
@[simp] theorem State.dropWatch_array (p : Nat) :
    (s.dropWatch p).array = s.array := rfl
@[simp] theorem State.dropWatch_tu (p : Nat) :
    (s.dropWatch p).tu = s.tu := rfl
@[simp] theorem State.dropWatch_seq (p : Nat) :
    (s.dropWatch p).seq = s.seq := rfl
@[simp] theorem State.dropWatch_scrub (p : Nat) :
    (s.dropWatch p).scrub = s.scrub := rfl
@[simp] theorem State.dropWatch_watch (p : Nat) :
    (s.dropWatch p).watch = s.watch.filter (·.physical ≠ p) := rfl
@[simp] theorem State.dropWatch_retq (p : Nat) :
    (s.dropWatch p).retq = s.retq := rfl
@[simp] theorem State.dropWatch_reports (p : Nat) :
    (s.dropWatch p).reports = s.reports := rfl
@[simp] theorem State.dropWatch_migration (p : Nat) :
    (s.dropWatch p).migration = s.migration := rfl
@[simp] theorem State.dropWatch_log (p : Nat) :
    (s.dropWatch p).log = s.log := rfl
@[simp] theorem State.dropWatch_offers (p : Nat) :
    (s.dropWatch p).offers = s.offers := rfl
@[simp] theorem State.dropWatch_queue (p : Nat) :
    (s.dropWatch p).queue = s.queue := rfl
@[simp] theorem State.dropWatch_lifecycle (p : Nat) :
    (s.dropWatch p).lifecycle = s.lifecycle := rfl
@[simp] theorem State.dropWatch_fillCursor (p : Nat) :
    (s.dropWatch p).fillCursor = s.fillCursor := rfl
@[simp] theorem State.dropWatch_mgmt (p : Nat) :
    (s.dropWatch p).mgmt = s.mgmt := rfl
@[simp] theorem State.dropWatch_config (p : Nat) :
    (s.dropWatch p).config = s.config := rfl
@[simp] theorem State.dropWatch_freeCount (p : Nat) :
    (s.dropWatch p).freeCount = s.freeCount := rfl
@[simp] theorem State.dropWatch_pending (p : Nat) :
    (s.dropWatch p).pending = s.pending := rfl

/-! ### offer -/

@[simp] theorem State.offer_pins (o : Offer) :
    (s.offer o).pins = s.pins := rfl
@[simp] theorem State.offer_array (o : Offer) :
    (s.offer o).array = s.array := rfl
@[simp] theorem State.offer_tu (o : Offer) :
    (s.offer o).tu = s.tu := rfl
@[simp] theorem State.offer_seq (o : Offer) :
    (s.offer o).seq = s.seq := rfl
@[simp] theorem State.offer_scrub (o : Offer) :
    (s.offer o).scrub = s.scrub := rfl
@[simp] theorem State.offer_watch (o : Offer) :
    (s.offer o).watch = s.watch := rfl
@[simp] theorem State.offer_retq (o : Offer) :
    (s.offer o).retq = s.retq := rfl
@[simp] theorem State.offer_reports (o : Offer) :
    (s.offer o).reports = s.reports := rfl
@[simp] theorem State.offer_migration (o : Offer) :
    (s.offer o).migration = s.migration := rfl
@[simp] theorem State.offer_log (o : Offer) :
    (s.offer o).log = s.log := rfl
@[simp] theorem State.offer_offers (o : Offer) :
    (s.offer o).offers = s.offers ++ [o] := rfl
@[simp] theorem State.offer_queue (o : Offer) :
    (s.offer o).queue = s.queue := rfl
@[simp] theorem State.offer_lifecycle (o : Offer) :
    (s.offer o).lifecycle = s.lifecycle := rfl
@[simp] theorem State.offer_fillCursor (o : Offer) :
    (s.offer o).fillCursor = s.fillCursor := rfl
@[simp] theorem State.offer_mgmt (o : Offer) :
    (s.offer o).mgmt = s.mgmt := rfl
@[simp] theorem State.offer_config (o : Offer) :
    (s.offer o).config = s.config := rfl
@[simp] theorem State.offer_freeCount (o : Offer) :
    (s.offer o).freeCount = s.freeCount := rfl
@[simp] theorem State.offer_pending (o : Offer) :
    (s.offer o).pending = s.pending := rfl

/-! ### report -/

@[simp] theorem State.report_pins (src : ReportSource) (p : Nat) :
    (s.report src p).pins = s.pins := rfl
@[simp] theorem State.report_array (src : ReportSource) (p : Nat) :
    (s.report src p).array = s.array := rfl
@[simp] theorem State.report_tu (src : ReportSource) (p : Nat) :
    (s.report src p).tu = s.tu := rfl
@[simp] theorem State.report_seq (src : ReportSource) (p : Nat) :
    (s.report src p).seq = s.seq := rfl
@[simp] theorem State.report_scrub (src : ReportSource) (p : Nat) :
    (s.report src p).scrub = s.scrub := rfl
@[simp] theorem State.report_watch (src : ReportSource) (p : Nat) :
    (s.report src p).watch = s.watch := rfl
@[simp] theorem State.report_retq (src : ReportSource) (p : Nat) :
    (s.report src p).retq = s.retq := rfl
@[simp] theorem State.report_reports (src : ReportSource) (p : Nat) :
    (s.report src p).reports = s.reports ++ [⟨src, p⟩] := rfl
@[simp] theorem State.report_migration (src : ReportSource) (p : Nat) :
    (s.report src p).migration = s.migration := rfl
@[simp] theorem State.report_log (src : ReportSource) (p : Nat) :
    (s.report src p).log = s.log := rfl
@[simp] theorem State.report_offers (src : ReportSource) (p : Nat) :
    (s.report src p).offers = s.offers := rfl
@[simp] theorem State.report_queue (src : ReportSource) (p : Nat) :
    (s.report src p).queue = s.queue := rfl
@[simp] theorem State.report_lifecycle (src : ReportSource) (p : Nat) :
    (s.report src p).lifecycle = s.lifecycle := rfl
@[simp] theorem State.report_fillCursor (src : ReportSource) (p : Nat) :
    (s.report src p).fillCursor = s.fillCursor := rfl
@[simp] theorem State.report_mgmt (src : ReportSource) (p : Nat) :
    (s.report src p).mgmt = s.mgmt := rfl
@[simp] theorem State.report_config (src : ReportSource) (p : Nat) :
    (s.report src p).config = s.config := rfl
@[simp] theorem State.report_freeCount (src : ReportSource) (p : Nat) :
    (s.report src p).freeCount = s.freeCount := rfl
@[simp] theorem State.report_pending (src : ReportSource) (p : Nat) :
    (s.report src p).pending = s.pending := rfl

/-! ### endContext -/

@[simp] theorem State.endContext_pins :
    (s.endContext).pins = s.pins := rfl
@[simp] theorem State.endContext_array :
    (s.endContext).array = s.array := rfl
@[simp] theorem State.endContext_tu :
    (s.endContext).tu = s.tu := rfl
@[simp] theorem State.endContext_seq :
    (s.endContext).seq = { s.seq with tenure := s.seq.tenure.orphaned } := rfl
@[simp] theorem State.endContext_scrub :
    (s.endContext).scrub = s.scrub := rfl
@[simp] theorem State.endContext_watch :
    (s.endContext).watch = s.watch := rfl
@[simp] theorem State.endContext_retq :
    (s.endContext).retq = s.retq := rfl
@[simp] theorem State.endContext_reports :
    (s.endContext).reports = s.reports := rfl
@[simp] theorem State.endContext_migration :
    (s.endContext).migration = none := rfl
@[simp] theorem State.endContext_log :
    (s.endContext).log = s.log := rfl
@[simp] theorem State.endContext_offers :
    (s.endContext).offers = s.offers := rfl
@[simp] theorem State.endContext_queue :
    (s.endContext).queue = s.queue := rfl
@[simp] theorem State.endContext_lifecycle :
    (s.endContext).lifecycle = s.lifecycle := rfl
@[simp] theorem State.endContext_fillCursor :
    (s.endContext).fillCursor = s.fillCursor := rfl
@[simp] theorem State.endContext_mgmt :
    (s.endContext).mgmt = s.mgmt := rfl
@[simp] theorem State.endContext_config :
    (s.endContext).config = s.config := rfl
@[simp] theorem State.endContext_freeCount :
    (s.endContext).freeCount = s.freeCount := rfl
@[simp] theorem State.endContext_pending :
    (s.endContext).pending = s.pending := rfl

/-! ### setContext -/

@[simp] theorem State.setContext_pins (c : MigrationContext) :
    (s.setContext c).pins = s.pins := rfl
@[simp] theorem State.setContext_array (c : MigrationContext) :
    (s.setContext c).array = s.array := rfl
@[simp] theorem State.setContext_tu (c : MigrationContext) :
    (s.setContext c).tu = s.tu := rfl
@[simp] theorem State.setContext_seq (c : MigrationContext) :
    (s.setContext c).seq = s.seq := rfl
@[simp] theorem State.setContext_scrub (c : MigrationContext) :
    (s.setContext c).scrub = s.scrub := rfl
@[simp] theorem State.setContext_watch (c : MigrationContext) :
    (s.setContext c).watch = s.watch := rfl
@[simp] theorem State.setContext_retq (c : MigrationContext) :
    (s.setContext c).retq = s.retq := rfl
@[simp] theorem State.setContext_reports (c : MigrationContext) :
    (s.setContext c).reports = s.reports := rfl
@[simp] theorem State.setContext_migration (c : MigrationContext) :
    (s.setContext c).migration = some c := rfl
@[simp] theorem State.setContext_log (c : MigrationContext) :
    (s.setContext c).log = s.log := rfl
@[simp] theorem State.setContext_offers (c : MigrationContext) :
    (s.setContext c).offers = s.offers := rfl
@[simp] theorem State.setContext_queue (c : MigrationContext) :
    (s.setContext c).queue = s.queue := rfl
@[simp] theorem State.setContext_lifecycle (c : MigrationContext) :
    (s.setContext c).lifecycle = s.lifecycle := rfl
@[simp] theorem State.setContext_fillCursor (c : MigrationContext) :
    (s.setContext c).fillCursor = s.fillCursor := rfl
@[simp] theorem State.setContext_mgmt (c : MigrationContext) :
    (s.setContext c).mgmt = s.mgmt := rfl
@[simp] theorem State.setContext_config (c : MigrationContext) :
    (s.setContext c).config = s.config := rfl
@[simp] theorem State.setContext_freeCount (c : MigrationContext) :
    (s.setContext c).freeCount = s.freeCount := rfl
@[simp] theorem State.setContext_pending (c : MigrationContext) :
    (s.setContext c).pending = s.pending := rfl

/-! ### freePort -/

@[simp] theorem State.freePort_pins :
    (s.freePort).pins = s.pins := rfl
@[simp] theorem State.freePort_array :
    (s.freePort).array = s.array := rfl
@[simp] theorem State.freePort_tu :
    (s.freePort).tu = s.tu := rfl
@[simp] theorem State.freePort_seq :
    (s.freePort).seq = { s.seq with tenure := .none } := rfl
@[simp] theorem State.freePort_scrub :
    (s.freePort).scrub = s.scrub := rfl
@[simp] theorem State.freePort_watch :
    (s.freePort).watch = s.watch := rfl
@[simp] theorem State.freePort_retq :
    (s.freePort).retq = s.retq := rfl
@[simp] theorem State.freePort_reports :
    (s.freePort).reports = s.reports := rfl
@[simp] theorem State.freePort_migration :
    (s.freePort).migration = s.migration := rfl
@[simp] theorem State.freePort_log :
    (s.freePort).log = s.log := rfl
@[simp] theorem State.freePort_offers :
    (s.freePort).offers = s.offers := rfl
@[simp] theorem State.freePort_queue :
    (s.freePort).queue = s.queue := rfl
@[simp] theorem State.freePort_lifecycle :
    (s.freePort).lifecycle = s.lifecycle := rfl
@[simp] theorem State.freePort_fillCursor :
    (s.freePort).fillCursor = s.fillCursor := rfl
@[simp] theorem State.freePort_mgmt :
    (s.freePort).mgmt = s.mgmt := rfl
@[simp] theorem State.freePort_config :
    (s.freePort).config = s.config := rfl
@[simp] theorem State.freePort_freeCount :
    (s.freePort).freeCount = s.freeCount := rfl
@[simp] theorem State.freePort_pending :
    (s.freePort).pending = s.pending := rfl

/-! ### completeCommand -/

@[simp] theorem State.completeCommand_pins :
    (s.completeCommand).pins = s.pins := rfl
@[simp] theorem State.completeCommand_array :
    (s.completeCommand).array = s.array := rfl
@[simp] theorem State.completeCommand_tu :
    (s.completeCommand).tu = s.tu := rfl
@[simp] theorem State.completeCommand_seq :
    (s.completeCommand).seq = s.seq := rfl
@[simp] theorem State.completeCommand_scrub :
    (s.completeCommand).scrub = s.scrub := rfl
@[simp] theorem State.completeCommand_watch :
    (s.completeCommand).watch = s.watch := rfl
@[simp] theorem State.completeCommand_retq :
    (s.completeCommand).retq = s.retq := rfl
@[simp] theorem State.completeCommand_reports :
    (s.completeCommand).reports = s.reports := rfl
@[simp] theorem State.completeCommand_migration :
    (s.completeCommand).migration = s.migration := rfl
@[simp] theorem State.completeCommand_log :
    (s.completeCommand).log = s.log := rfl
@[simp] theorem State.completeCommand_offers :
    (s.completeCommand).offers = s.offers := rfl
@[simp] theorem State.completeCommand_queue :
    (s.completeCommand).queue = s.queue := rfl
@[simp] theorem State.completeCommand_lifecycle :
    (s.completeCommand).lifecycle = s.lifecycle := rfl
@[simp] theorem State.completeCommand_fillCursor :
    (s.completeCommand).fillCursor = s.fillCursor := rfl
@[simp] theorem State.completeCommand_mgmt :
    (s.completeCommand).mgmt = { s.mgmt with busy := false, lastResult := .ok } := rfl
@[simp] theorem State.completeCommand_config :
    (s.completeCommand).config = s.config := rfl
@[simp] theorem State.completeCommand_freeCount :
    (s.completeCommand).freeCount = s.freeCount := rfl
@[simp] theorem State.completeCommand_pending :
    (s.completeCommand).pending = s.pending := rfl

/-! ### answer -/

@[simp] theorem State.answer_pins (r : CommandResult) :
    (s.answer r).pins = s.pins := rfl
@[simp] theorem State.answer_array (r : CommandResult) :
    (s.answer r).array = s.array := rfl
@[simp] theorem State.answer_tu (r : CommandResult) :
    (s.answer r).tu = s.tu := rfl
@[simp] theorem State.answer_seq (r : CommandResult) :
    (s.answer r).seq = s.seq := rfl
@[simp] theorem State.answer_scrub (r : CommandResult) :
    (s.answer r).scrub = s.scrub := rfl
@[simp] theorem State.answer_watch (r : CommandResult) :
    (s.answer r).watch = s.watch := rfl
@[simp] theorem State.answer_retq (r : CommandResult) :
    (s.answer r).retq = s.retq := rfl
@[simp] theorem State.answer_reports (r : CommandResult) :
    (s.answer r).reports = s.reports := rfl
@[simp] theorem State.answer_migration (r : CommandResult) :
    (s.answer r).migration = s.migration := rfl
@[simp] theorem State.answer_log (r : CommandResult) :
    (s.answer r).log = s.log := rfl
@[simp] theorem State.answer_offers (r : CommandResult) :
    (s.answer r).offers = s.offers := rfl
@[simp] theorem State.answer_queue (r : CommandResult) :
    (s.answer r).queue = s.queue := rfl
@[simp] theorem State.answer_lifecycle (r : CommandResult) :
    (s.answer r).lifecycle = s.lifecycle := rfl
@[simp] theorem State.answer_fillCursor (r : CommandResult) :
    (s.answer r).fillCursor = s.fillCursor := rfl
@[simp] theorem State.answer_mgmt (r : CommandResult) :
    (s.answer r).mgmt = { s.mgmt with lastResult := r } := rfl
@[simp] theorem State.answer_config (r : CommandResult) :
    (s.answer r).config = s.config := rfl
@[simp] theorem State.answer_freeCount (r : CommandResult) :
    (s.answer r).freeCount = s.freeCount := rfl
@[simp] theorem State.answer_pending (r : CommandResult) :
    (s.answer r).pending = s.pending := rfl

/-! ### goBusy -/

@[simp] theorem State.goBusy_pins :
    (s.goBusy).pins = s.pins := rfl
@[simp] theorem State.goBusy_array :
    (s.goBusy).array = s.array := rfl
@[simp] theorem State.goBusy_tu :
    (s.goBusy).tu = s.tu := rfl
@[simp] theorem State.goBusy_seq :
    (s.goBusy).seq = s.seq := rfl
@[simp] theorem State.goBusy_scrub :
    (s.goBusy).scrub = s.scrub := rfl
@[simp] theorem State.goBusy_watch :
    (s.goBusy).watch = s.watch := rfl
@[simp] theorem State.goBusy_retq :
    (s.goBusy).retq = s.retq := rfl
@[simp] theorem State.goBusy_reports :
    (s.goBusy).reports = s.reports := rfl
@[simp] theorem State.goBusy_migration :
    (s.goBusy).migration = s.migration := rfl
@[simp] theorem State.goBusy_log :
    (s.goBusy).log = s.log := rfl
@[simp] theorem State.goBusy_offers :
    (s.goBusy).offers = s.offers := rfl
@[simp] theorem State.goBusy_queue :
    (s.goBusy).queue = s.queue := rfl
@[simp] theorem State.goBusy_lifecycle :
    (s.goBusy).lifecycle = s.lifecycle := rfl
@[simp] theorem State.goBusy_fillCursor :
    (s.goBusy).fillCursor = s.fillCursor := rfl
@[simp] theorem State.goBusy_mgmt :
    (s.goBusy).mgmt = { s.mgmt with busy := true } := rfl
@[simp] theorem State.goBusy_config :
    (s.goBusy).config = s.config := rfl
@[simp] theorem State.goBusy_freeCount :
    (s.goBusy).freeCount = s.freeCount := rfl
@[simp] theorem State.goBusy_pending :
    (s.goBusy).pending = s.pending := rfl

/-! ### closeFrame -/

@[simp] theorem State.closeFrame_pins :
    (s.closeFrame).pins = { s.pins with ssnLow := false } := rfl
@[simp] theorem State.closeFrame_array :
    (s.closeFrame).array = s.array := rfl
@[simp] theorem State.closeFrame_tu :
    (s.closeFrame).tu = s.tu := rfl
@[simp] theorem State.closeFrame_seq :
    (s.closeFrame).seq = s.seq := rfl
@[simp] theorem State.closeFrame_scrub :
    (s.closeFrame).scrub = s.scrub := rfl
@[simp] theorem State.closeFrame_watch :
    (s.closeFrame).watch = s.watch := rfl
@[simp] theorem State.closeFrame_retq :
    (s.closeFrame).retq = s.retq := rfl
@[simp] theorem State.closeFrame_reports :
    (s.closeFrame).reports = s.reports := rfl
@[simp] theorem State.closeFrame_migration :
    (s.closeFrame).migration = s.migration := rfl
@[simp] theorem State.closeFrame_log :
    (s.closeFrame).log = s.log := rfl
@[simp] theorem State.closeFrame_offers :
    (s.closeFrame).offers = s.offers := rfl
@[simp] theorem State.closeFrame_queue :
    (s.closeFrame).queue = s.queue := rfl
@[simp] theorem State.closeFrame_lifecycle :
    (s.closeFrame).lifecycle = s.lifecycle := rfl
@[simp] theorem State.closeFrame_fillCursor :
    (s.closeFrame).fillCursor = s.fillCursor := rfl
@[simp] theorem State.closeFrame_mgmt :
    (s.closeFrame).mgmt = { s.mgmt with frame := .idle } := rfl
@[simp] theorem State.closeFrame_config :
    (s.closeFrame).config = s.config := rfl
@[simp] theorem State.closeFrame_freeCount :
    (s.closeFrame).freeCount = s.freeCount := rfl
@[simp] theorem State.closeFrame_pending :
    (s.closeFrame).pending = s.pending := rfl

/-! ### openFrame -/

@[simp] theorem State.openFrame_pins :
    (s.openFrame).pins = { s.pins with ssnLow := true } := by
  unfold State.openFrame
  split
  · rename_i h; cases s; rename_i pins _ _ _ _ _ _ _ _ _ _ _ _ _ _ _ _ _; cases pins; simp_all
  · rfl
@[simp] theorem State.openFrame_array :
    (s.openFrame).array = s.array := by
  unfold State.openFrame; split <;> rfl
@[simp] theorem State.openFrame_tu :
    (s.openFrame).tu = s.tu := by
  unfold State.openFrame; split <;> rfl
@[simp] theorem State.openFrame_seq :
    (s.openFrame).seq = s.seq := by
  unfold State.openFrame; split <;> rfl
@[simp] theorem State.openFrame_scrub :
    (s.openFrame).scrub = s.scrub := by
  unfold State.openFrame; split <;> rfl
@[simp] theorem State.openFrame_watch :
    (s.openFrame).watch = s.watch := by
  unfold State.openFrame; split <;> rfl
@[simp] theorem State.openFrame_retq :
    (s.openFrame).retq = s.retq := by
  unfold State.openFrame; split <;> rfl
@[simp] theorem State.openFrame_reports :
    (s.openFrame).reports = s.reports := by
  unfold State.openFrame; split <;> rfl
@[simp] theorem State.openFrame_migration :
    (s.openFrame).migration = s.migration := by
  unfold State.openFrame; split <;> rfl
@[simp] theorem State.openFrame_log :
    (s.openFrame).log = s.log := by
  unfold State.openFrame; split <;> rfl
@[simp] theorem State.openFrame_offers :
    (s.openFrame).offers = s.offers := by
  unfold State.openFrame; split <;> rfl
@[simp] theorem State.openFrame_queue :
    (s.openFrame).queue = s.queue := by
  unfold State.openFrame; split <;> rfl
@[simp] theorem State.openFrame_lifecycle :
    (s.openFrame).lifecycle = s.lifecycle := by
  unfold State.openFrame; split <;> rfl
@[simp] theorem State.openFrame_fillCursor :
    (s.openFrame).fillCursor = s.fillCursor := by
  unfold State.openFrame; split <;> rfl
@[simp] theorem State.openFrame_config :
    (s.openFrame).config = s.config := by
  unfold State.openFrame; split <;> rfl
@[simp] theorem State.openFrame_freeCount :
    (s.openFrame).freeCount = s.freeCount := by
  unfold State.openFrame; split <;> rfl
@[simp] theorem State.openFrame_pending :
    (s.openFrame).pending = s.pending := by
  unfold State.openFrame; split <;> rfl

/-! ### advancePointer -/

@[simp] theorem State.advancePointer_pins :
    (s.advancePointer).pins = s.pins := rfl
@[simp] theorem State.advancePointer_array :
    (s.advancePointer).array = s.array := rfl
@[simp] theorem State.advancePointer_tu :
    (s.advancePointer).tu = s.tu := rfl
@[simp] theorem State.advancePointer_seq :
    (s.advancePointer).seq = s.seq := rfl
@[simp] theorem State.advancePointer_scrub :
    (s.advancePointer).scrub = s.scrub := rfl
@[simp] theorem State.advancePointer_watch :
    (s.advancePointer).watch = s.watch := rfl
@[simp] theorem State.advancePointer_retq :
    (s.advancePointer).retq = s.retq := rfl
@[simp] theorem State.advancePointer_reports :
    (s.advancePointer).reports = s.reports := rfl
@[simp] theorem State.advancePointer_migration :
    (s.advancePointer).migration = s.migration := rfl
@[simp] theorem State.advancePointer_log :
    (s.advancePointer).log = s.log := rfl
@[simp] theorem State.advancePointer_offers :
    (s.advancePointer).offers = s.offers := rfl
@[simp] theorem State.advancePointer_queue :
    (s.advancePointer).queue = s.queue := rfl
@[simp] theorem State.advancePointer_lifecycle :
    (s.advancePointer).lifecycle = s.lifecycle := rfl
@[simp] theorem State.advancePointer_fillCursor :
    (s.advancePointer).fillCursor = s.fillCursor := rfl
@[simp] theorem State.advancePointer_mgmt :
    (s.advancePointer).mgmt = { s.mgmt with pointer := s.nextPointer } := rfl
@[simp] theorem State.advancePointer_config :
    (s.advancePointer).config = s.config := rfl
@[simp] theorem State.advancePointer_freeCount :
    (s.advancePointer).freeCount = s.freeCount := rfl
@[simp] theorem State.advancePointer_pending :
    (s.advancePointer).pending = s.pending := rfl

/-! ### refuseWrite -/

@[simp] theorem State.refuseWrite_pins :
    (s.refuseWrite).pins = s.pins := rfl
@[simp] theorem State.refuseWrite_array :
    (s.refuseWrite).array = s.array := rfl
@[simp] theorem State.refuseWrite_tu :
    (s.refuseWrite).tu = s.tu := rfl
@[simp] theorem State.refuseWrite_seq :
    (s.refuseWrite).seq = s.seq := rfl
@[simp] theorem State.refuseWrite_scrub :
    (s.refuseWrite).scrub = s.scrub := rfl
@[simp] theorem State.refuseWrite_watch :
    (s.refuseWrite).watch = s.watch := rfl
@[simp] theorem State.refuseWrite_retq :
    (s.refuseWrite).retq = s.retq := rfl
@[simp] theorem State.refuseWrite_reports :
    (s.refuseWrite).reports = s.reports := rfl
@[simp] theorem State.refuseWrite_migration :
    (s.refuseWrite).migration = s.migration := rfl
@[simp] theorem State.refuseWrite_log :
    (s.refuseWrite).log = s.log := rfl
@[simp] theorem State.refuseWrite_offers :
    (s.refuseWrite).offers = s.offers := rfl
@[simp] theorem State.refuseWrite_queue :
    (s.refuseWrite).queue = s.queue := rfl
@[simp] theorem State.refuseWrite_lifecycle :
    (s.refuseWrite).lifecycle = s.lifecycle := rfl
@[simp] theorem State.refuseWrite_fillCursor :
    (s.refuseWrite).fillCursor = s.fillCursor := rfl
@[simp] theorem State.refuseWrite_mgmt :
    (s.refuseWrite).mgmt = { s.mgmt with accessError := true } := rfl
@[simp] theorem State.refuseWrite_config :
    (s.refuseWrite).config = s.config := rfl
@[simp] theorem State.refuseWrite_freeCount :
    (s.refuseWrite).freeCount = s.freeCount := rfl
@[simp] theorem State.refuseWrite_pending :
    (s.refuseWrite).pending = s.pending := rfl

/-! ### setResults -/

@[simp] theorem State.setResults_pins (rs : List BeatResult) :
    (s.setResults rs).pins = s.pins := rfl
@[simp] theorem State.setResults_array (rs : List BeatResult) :
    (s.setResults rs).array = s.array := rfl
@[simp] theorem State.setResults_tu (rs : List BeatResult) :
    (s.setResults rs).tu = s.tu := rfl
@[simp] theorem State.setResults_seq (rs : List BeatResult) :
    (s.setResults rs).seq = s.seq := rfl
@[simp] theorem State.setResults_scrub (rs : List BeatResult) :
    (s.setResults rs).scrub = s.scrub := rfl
@[simp] theorem State.setResults_watch (rs : List BeatResult) :
    (s.setResults rs).watch = s.watch := rfl
@[simp] theorem State.setResults_retq (rs : List BeatResult) :
    (s.setResults rs).retq = s.retq := rfl
@[simp] theorem State.setResults_reports (rs : List BeatResult) :
    (s.setResults rs).reports = s.reports := rfl
@[simp] theorem State.setResults_migration (rs : List BeatResult) :
    (s.setResults rs).migration = s.migration := rfl
@[simp] theorem State.setResults_log (rs : List BeatResult) :
    (s.setResults rs).log = s.log := rfl
@[simp] theorem State.setResults_offers (rs : List BeatResult) :
    (s.setResults rs).offers = s.offers := rfl
@[simp] theorem State.setResults_queue (rs : List BeatResult) :
    (s.setResults rs).queue = s.queue.map fun p => if p.state = .inTenure then { p with results := rs } else p := rfl
@[simp] theorem State.setResults_lifecycle (rs : List BeatResult) :
    (s.setResults rs).lifecycle = s.lifecycle := rfl
@[simp] theorem State.setResults_fillCursor (rs : List BeatResult) :
    (s.setResults rs).fillCursor = s.fillCursor := rfl
@[simp] theorem State.setResults_mgmt (rs : List BeatResult) :
    (s.setResults rs).mgmt = s.mgmt := rfl
@[simp] theorem State.setResults_config (rs : List BeatResult) :
    (s.setResults rs).config = s.config := rfl
@[simp] theorem State.setResults_freeCount (rs : List BeatResult) :
    (s.setResults rs).freeCount = s.freeCount := rfl
@[simp] theorem State.setResults_pending (rs : List BeatResult) :
    (s.setResults rs).pending = s.pending := rfl

/-! ### markDirty -/

@[simp] theorem State.markDirty_pins (l : Nat) :
    (s.markDirty l).pins = s.pins := by unfold State.markDirty; split <;> [rfl; (split <;> rfl)]
@[simp] theorem State.markDirty_array (l : Nat) :
    (s.markDirty l).array = s.array := by unfold State.markDirty; split <;> [rfl; (split <;> rfl)]
@[simp] theorem State.markDirty_tu (l : Nat) :
    (s.markDirty l).tu = s.tu := by unfold State.markDirty; split <;> [rfl; (split <;> rfl)]
@[simp] theorem State.markDirty_seq (l : Nat) :
    (s.markDirty l).seq = s.seq := by unfold State.markDirty; split <;> [rfl; (split <;> rfl)]
@[simp] theorem State.markDirty_scrub (l : Nat) :
    (s.markDirty l).scrub = s.scrub := by unfold State.markDirty; split <;> [rfl; (split <;> rfl)]
@[simp] theorem State.markDirty_watch (l : Nat) :
    (s.markDirty l).watch = s.watch := by unfold State.markDirty; split <;> [rfl; (split <;> rfl)]
@[simp] theorem State.markDirty_retq (l : Nat) :
    (s.markDirty l).retq = s.retq := by unfold State.markDirty; split <;> [rfl; (split <;> rfl)]
@[simp] theorem State.markDirty_reports (l : Nat) :
    (s.markDirty l).reports = s.reports := by unfold State.markDirty; split <;> [rfl; (split <;> rfl)]
@[simp] theorem State.markDirty_log (l : Nat) :
    (s.markDirty l).log = s.log := by unfold State.markDirty; split <;> [rfl; (split <;> rfl)]
@[simp] theorem State.markDirty_offers (l : Nat) :
    (s.markDirty l).offers = s.offers := by unfold State.markDirty; split <;> [rfl; (split <;> rfl)]
@[simp] theorem State.markDirty_queue (l : Nat) :
    (s.markDirty l).queue = s.queue := by unfold State.markDirty; split <;> [rfl; (split <;> rfl)]
@[simp] theorem State.markDirty_lifecycle (l : Nat) :
    (s.markDirty l).lifecycle = s.lifecycle := by unfold State.markDirty; split <;> [rfl; (split <;> rfl)]
@[simp] theorem State.markDirty_fillCursor (l : Nat) :
    (s.markDirty l).fillCursor = s.fillCursor := by unfold State.markDirty; split <;> [rfl; (split <;> rfl)]
@[simp] theorem State.markDirty_mgmt (l : Nat) :
    (s.markDirty l).mgmt = s.mgmt := by unfold State.markDirty; split <;> [rfl; (split <;> rfl)]
@[simp] theorem State.markDirty_config (l : Nat) :
    (s.markDirty l).config = s.config := by unfold State.markDirty; split <;> [rfl; (split <;> rfl)]
@[simp] theorem State.markDirty_freeCount (l : Nat) :
    (s.markDirty l).freeCount = s.freeCount := by unfold State.markDirty; split <;> [rfl; (split <;> rfl)]
@[simp] theorem State.markDirty_pending (l : Nat) :
    (s.markDirty l).pending = s.pending := by unfold State.markDirty; split <;> [rfl; (split <;> rfl)]

end Sys2Proof.Machine
end

