-- ==== Sys2Proof/Laws/Ops.lean ====
section
/-! SUPPORT. What each shared operation can do, said once, for proofs to cite in place of its definition. -/

namespace Sys2Proof.Machine

/-! ## Geometry -/

theorem State.W_large (s : State) : 131072 ≤ s.W := by
  have h : 2 ^ 17 ≤ 2 ^ (17 + s.tu.sizeStrap.val) := Nat.pow_le_pow_right (by decide) (by omega)
  simpa [State.W] using h

theorem State.H_add (s : State) : s.H + 64 = s.W := by
  have := s.W_large
  unfold State.H
  omega

theorem State.slotAddress_lt_W (s : State) (k : Fin 64) : s.slotAddress k < s.W := by
  have := s.H_add
  unfold State.slotAddress
  omega

@[simp] theorem State.slotAt_slotAddress (s : State) (k : Fin 64) : s.slotAt (s.slotAddress k) = some k := by
  simp [State.slotAt, State.slotAddress]

/-! ## Lookups -/

/-- The mapped slot of l is a slot whose entry names l. -/
theorem State.mappedSlot_some {s : State} {l : Nat} {k : Fin 64} (h : s.mappedSlot l = some k) :
    ∃ e, s.tu.table[k] = some e ∧ e.logical = l := by
  have h' := List.find?_some h
  unfold State.entryNames at h'
  split at h'
  · rename_i e he
    exact ⟨e, he, by simpa using h'⟩
  · simp at h'

/-- l has no mapped slot exactly when no entry names it. -/
theorem State.mappedSlot_none {s : State} {l : Nat} :
    s.mappedSlot l = none ↔ ∀ (k : Fin 64) (e : RepairEntry), s.tu.table[k] = some e → e.logical ≠ l := by
  unfold State.mappedSlot
  rw [List.find?_eq_none]
  constructor
  · intro h k e he hl
    exact h k (List.mem_finRange k) (by simp [State.entryNames, he, hl])
  · intro h k _ hk
    unfold State.entryNames at hk
    split at hk
    · rename_i e he
      exact h k e he (by simpa using hk)
    · simp at hk

/-- The forward lookup is the home word or a slot, and never beyond the array for an address below H. -/
theorem State.forward_lt_W {s : State} {l : Nat} (h : l < s.H) : s.forward l < s.W := by
  unfold State.forward
  split
  · exact s.slotAddress_lt_W _
  · have := s.H_add
    omega

/-- The slot that allocation takes is FREE. -/
theorem State.lowestFree_some {s : State} {k : Fin 64} (h : s.lowestFree = some k) : s.tu.pool[k] = .free := by
  simpa [State.slotIsFree] using List.find?_some h

/-- Allocation fails exactly when no slot is FREE. -/
theorem State.lowestFree_none {s : State} : s.lowestFree = none ↔ ∀ k : Fin 64, s.tu.pool[k] ≠ .free := by
  simp [State.lowestFree, State.slotIsFree]

/-! ## Watch List operations: each changes the Watch List and the Retirement Queue only -/

theorem State.offerDue_frame (s : State) (p : Nat) :
    ∃ w r, s.offerDue p = { s with watch := w, retq := r } := by
  unfold State.offerDue
  split
  · exact ⟨s.watch, s.retq, rfl⟩
  · split
    · exact ⟨_, s.retq, rfl⟩
    · split
      · exact ⟨_, s.retq, rfl⟩
      · split
        · exact ⟨_, _, rfl⟩
        · exact ⟨s.watch, s.retq, rfl⟩

theorem State.testThreshold_frame (s : State) (p : Nat) :
    ∃ w r, s.testThreshold p = { s with watch := w, retq := r } := by
  unfold State.testThreshold
  split
  · exact ⟨s.watch, s.retq, rfl⟩
  · split
    · obtain ⟨w, r, h⟩ := (s.setWatch p .due).offerDue_frame p
      exact ⟨w, r, h⟩
    · exact ⟨s.watch, s.retq, rfl⟩

/-- A fold of steps that change only the Watch List and the Retirement Queue changes only them. -/
theorem foldl_frame {α : Type} (f : State → α → State)
    (h : ∀ s a, ∃ w r, f s a = { s with watch := w, retq := r }) (l : List α) (s : State) :
    ∃ w r, l.foldl f s = { s with watch := w, retq := r } := by
  induction l generalizing s with
  | nil => exact ⟨s.watch, s.retq, rfl⟩
  | cons a l ih =>
    obtain ⟨w, r, hf⟩ := h s a
    obtain ⟨w', r', hl⟩ := ih (f s a)
    exact ⟨w', r', by rw [List.foldl_cons, hl, hf]⟩

theorem State.offerDueEntries_frame (s : State) :
    ∃ w r, s.offerDueEntries = { s with watch := w, retq := r } := by
  unfold State.offerDueEntries
  refine foldl_frame _ (fun t e => ?_) _ s
  split
  · exact t.offerDue_frame _
  · exact ⟨t.watch, t.retq, rfl⟩

theorem State.releaseStuck_frame (s : State) :
    ∃ w r, s.releaseStuck = { s with watch := w, retq := r } := by
  unfold State.releaseStuck
  obtain ⟨w, r, h⟩ := foldl_frame State.testThreshold State.testThreshold_frame
    ((s.watch.filter (·.state = .stuck)).map (·.physical))
    { s with watch := s.watch.map fun e => if e.state = .stuck then { e with state := .counting } else e }
  exact ⟨w, r, h⟩

theorem State.freeSlot_frame (s : State) (k : Fin 64) :
    ∃ w r, s.freeSlot k = { s.setSlot k .free with watch := w, retq := r } :=
  (s.setSlot k .free).releaseStuck_frame

theorem State.takeReport_frame (s : State) (p : Nat) :
    ∃ w r, s.takeReport p = { s with watch := w, retq := r } := by
  unfold State.takeReport
  split
  · exact ⟨s.watch, s.retq, rfl⟩
  · split
    · obtain ⟨w, r, h⟩ := State.testThreshold_frame _ p
      exact ⟨w, r, h⟩
    · unfold State.insertWatch
      split
      · obtain ⟨w, r, h⟩ := State.testThreshold_frame _ p
        exact ⟨w, r, h⟩
      · split
        · exact ⟨s.watch, s.retq, rfl⟩
        · obtain ⟨w, r, h⟩ := State.testThreshold_frame _ p
          exact ⟨w, r, h⟩

/-! ## Ends of migrations and of lifecycle states -/

/-- An abort without a migration changes nothing; with one it offers the record, ends the context, orphans its tenure and
frees its target, and touches nothing else but the Watch List and the Retirement Queue. -/
theorem State.abortMigration_frame (s : State) (cause : AbandonCause) :
    (s.migration = none ∧ s.abortMigration cause = s) ∨
    ∃ c w r, s.migration = some c ∧
      s.abortMigration cause =
        { s with
          offers := s.offers ++ [.migrationAbandoned c.logical cause c.target], migration := none,
          seq := { s.seq with tenure := s.seq.tenure.orphaned },
          tu := { s.tu with pool := s.tu.pool.set c.target .free }, watch := w, retq := r } := by
  unfold State.abortMigration
  split
  · exact .inl ⟨by assumption, rfl⟩
  · rename_i c hc
    obtain ⟨w, r, h⟩ := State.freeSlot_frame
      (((s.offer (.migrationAbandoned c.logical cause c.target)).setWatch c.source .counting).endContext) c.target
    exact .inr ⟨c, w, r, hc, h⟩

/-- What the end of a drain does in each lifecycle state. -/
theorem State.endDrain_cases (s : State) :
    (s.lifecycle.isDraining = false ∧ s.endDrain = s) ∨
    (s.lifecycle = .draining .hold ∧ s.endDrain = ({ s with lifecycle := .hold } : State).completeCommand) ∨
    ∃ back, s.lifecycle = .draining (.filling back) ∧ s.endDrain = s.beginFilling back := by
  unfold State.endDrain
  split
  · exact .inr (.inl ⟨by assumption, rfl⟩)
  · rename_i back h
    exact .inr (.inr ⟨back, h, rfl⟩)
  all_goals rename_i h; exact .inl ⟨by simp [h, Lifecycle.isDraining], rfl⟩

/-! ## The logical address of an offer -/

@[simp] theorem State.offerLogical_ce_migrate (s : State) (l p b : Nat) (syn : BitVec 8) :
    s.offerLogical (.ce (.migrate l) p b syn) = some l := rfl

@[simp] theorem State.offerLogical_ue_migrate (s : State) (l p : Nat) (syn : BitVec 8) :
    s.offerLogical (.ue (.migrate l) p syn) = some l := rfl

/-- An offer that carries no logical address has that of its reverse lookup. -/
theorem State.offerLogical_lookup {s : State} {o : Offer} (h : o.carried = none) :
    s.offerLogical o = o.lookupAddress.bind s.owner := by
  simp [State.offerLogical, h]

/-! ## The take of a command -/

/-- The end of a frame that has begun and ended is the end of the frame. -/
theorem State.openFrame_closeFrame (s : State) : s.openFrame.closeFrame = s.frameEnded := by
  unfold State.openFrame
  split <;> rfl

/-- A frame that accepts has, once begun, no kind known. -/
theorem State.openFrame_frame {s : State} (h : s.frameAccepts = true) :
    ∃ n, s.openFrame.mgmt.frame = .running .fresh n := by
  unfold State.frameAccepts at h
  simp only [Bool.and_eq_true, Bool.not_eq_true', Bool.or_eq_true] at h
  obtain ⟨hr, h⟩ := h
  unfold State.openFrame
  by_cases hs : s.pins.ssnLow = true
  · simp only [hs, Bool.true_eq_false, false_or] at h
    split at h
    · rename_i n hf
      exact ⟨n, by rw [if_pos hs, hf]⟩
    all_goals simp at h
  · rw [if_neg hs]
    exact ⟨0, by simp [hr]⟩

/-- A frame that accepts acts at its end. -/
theorem State.atFrameEnd_accepts {s : State} (h : s.frameAccepts = true) (act : State → State) :
    s.atFrameEnd act = act s.frameEnded := by
  obtain ⟨n, hf⟩ := State.openFrame_frame h
  simp only [State.atFrameEnd, hf, State.openFrame_closeFrame]

/-- A command that is taken while IDLE is its owner's act on the state of the take. -/
theorem State.takeCommand_ready {s : State} (h : s.CommandReady) (code : BitVec 8) (owner : State → State) :
    s.takeCommand code owner = owner (s.taken code) := by
  unfold State.takeCommand
  rw [State.atFrameEnd_accepts h.1, if_neg (show ¬s.frameEnded.mgmt.busy = true by simp [State.frameEnded, h.2])]
  rfl

/-- The fields of the state of a take, but for the pins and the port, are those before it. -/
@[simp] theorem State.taken_tu (s : State) (code : BitVec 8) : (s.taken code).tu = s.tu := rfl
@[simp] theorem State.taken_watch (s : State) (code : BitVec 8) : (s.taken code).watch = s.watch := rfl
@[simp] theorem State.taken_retq (s : State) (code : BitVec 8) : (s.taken code).retq = s.retq := rfl
@[simp] theorem State.taken_migration (s : State) (code : BitVec 8) : (s.taken code).migration = s.migration := rfl
@[simp] theorem State.taken_lifecycle (s : State) (code : BitVec 8) : (s.taken code).lifecycle = s.lifecycle := rfl
@[simp] theorem State.taken_log (s : State) (code : BitVec 8) : (s.taken code).log = s.log := rfl
@[simp] theorem State.taken_queue (s : State) (code : BitVec 8) : (s.taken code).queue = s.queue := rfl
@[simp] theorem State.taken_scrub (s : State) (code : BitVec 8) : (s.taken code).scrub = s.scrub := rfl
@[simp] theorem State.taken_config (s : State) (code : BitVec 8) : (s.taken code).config = s.config := rfl
@[simp] theorem State.taken_seq (s : State) (code : BitVec 8) : (s.taken code).seq = s.seq := rfl

/-! ## The array port -/

/-- An array access answers only at an address that exists. -/
theorem atArray_eq_next {s : State} {p : Nat} {r : Result} {t : State} (h : atArray s p r = .next t) :
    p < s.W ∧ r = .next t := by
  unfold atArray at h
  split at h
  · exact ⟨by assumption, h⟩
  · cases h

@[simp] theorem atArray_of_lt {s : State} {p : Nat} (h : p < s.W) (r : Result) : atArray s p r = r := if_pos h

/-- An event of the running part answers next: itself while RESET_N is high, nothing while it is low. -/
theorem whileRunning_high {s : State} (h : s.pins.resetLow = false) (t : State) :
    whileRunning s t = .next t := by
  simp [whileRunning, h]

theorem whileRunning_low {s : State} (h : s.pins.resetLow = true) (t : State) :
    whileRunning s t = .next s := by
  simp [whileRunning, h]

end Sys2Proof.Machine
end

