-- ==== Sys2Proof/WellFormed.lean ====
section
/-! DEFINITION. Which operands make a row the event its table entry names. -/

namespace Sys2Proof

/-- A row is well formed when its operands are ones its event can carry: an unknown code is not a known one
(R179, R167), and a taken write carries a value its word accepts (R61, R63, R175, R185). Every other row is the
event its entry names with any operands. -/
def Instr.wf : Instr → Bool
  | .unknownCommand code => !Machine.commandCodes.contains code
  | .unknownFrameKind kind => !Machine.frameKindKnown kind
  | .scrubIntervalWrite v => v.toNat ≤ 65535
  | .timebaseDivWrite v => 1 ≤ v.toNat && v.toNat ≤ 255
  | .alertMaskWrite v => v.toNat ≤ 255
  | .resetNLow _ | .resetNRise _ _ | .requestTaken _ _ _ _ _ | .heldRequestTaken | .responseTaken
  | .grantDecision | .hostReadBeat | .hostWriteBeat | .hostMergeBeat | .hostTenureCompletion
  | .recordOffer _ | .ceReport _ | .microsecondTick | .intervalExpiry | .scrubDecode
  | .scrubStepCompletion | .migrationStart | .copyReadCompletion | .copyWriteCompletion
  | .verifyCompletion | .fillWordCompletion | .peekCompletion | .pokeCompletion
  | .map _ _ | .unmap _ | .slotFree _ | .slotBad _ | .peek _ | .poke _ | .scrubSeek _ | .retire _
  | .clearWatch | .cancelMigration | .popLog | .clearLog | .clearSummary | .openArray | .closeArray
  | .fillArray | .softReset | .select _ _ | .readWord | .writeWord _ | .frameStart | .frameEnd
  | .referenceClockPeriod => true

end Sys2Proof
end

