-- ==== Sys2Proof/Tests/Slice0.lean ====
section
/-! SUPPORT. Tests: the WellFormed smoke test, the manual's worked examples step by step, and for every statement with
hypotheses a state and operands that meet them. Expected values are the manual's, or worked by hand from its rules. -/

namespace Sys2Proof.Tests

open Sys2Proof Sys2Proof.Machine

set_option Elab.async false

/-! ## Helpers -/

/-- Right after a preserved start: HOLD, W 20000h, H 1FFC0h. -/
def held : State := State.afterReset 0 true

/-- The same in OPEN. -/
def live : State := { held with lifecycle := .opened }

/-- The same in FILLING with return state OPEN. -/
def filling : State := State.afterReset 0 false

/-- s with RESET_N low and nothing under way. -/
def low (s : State) : State := { s with pins := { s.pins with resetLow := true } }

/-- s with a tenure. -/
def inTenure (s : State) (t : Tenure) : State := { s with seq := { s.seq with tenure := t } }

/-- The array word of the manual's worked encodings: FFh with check byte 03h. -/
def wordFF : ArrayWord := ⟨0xFF, 0x03⟩

/-- That word with d5 changed (CORRECTABLE, bit position 5), and with d0 and d1 changed (UNCORRECTABLE). -/
def wordCE : ArrayWord := ⟨0xDF, 0x03⟩
def wordUE : ArrayWord := ⟨0xFC, 0x03⟩

/-- A request header (R182). -/
def header (write : Bool) (tag lengthCode address : Nat) : BitVec 32 :=
  BitVec.ofNat 32 ((if write then 2 ^ 31 else 0) + tag * 2 ^ 27 + lengthCode * 2 ^ 25 + address)

/-- A READ request at an address, and a WRITE request with given beats. -/
def readOf (address : Nat) (lengthCode : BitVec 2) : Request := ⟨.read, 1, BitVec.ofNat 24 address, lengthCode, []⟩
def writeOf (address : Nat) (lengthCode : BitVec 2) (beats : List WriteBeat) : Request :=
  ⟨.write, 6, BitVec.ofNat 24 address, lengthCode, beats⟩

/-- s with one place in a host tenure. -/
def hosting (s : State) (r : Request) (results : List BeatResult) : State :=
  { s with queue := [⟨r, .inTenure, none, results⟩], seq := ⟨.host, 1⟩ }

/-- s with an entry for logical l in slot k. -/
def withEntry (s : State) (l : Nat) (k : Fin 64) : State :=
  { s with tu := { s.tu with table := s.tu.table.set k (some ⟨l, .loaded, 0⟩), pool := s.tu.pool.set k .inUse } }

/-- A migration of logical 5 to slot 1 in a given phase. -/
def moving (phase : MigrationPhase) (dirty : Bool) (restarts : Nat) : MigrationContext :=
  ⟨5, 5, 1, phase, some 0xFF, dirty, restarts, false, .watch⟩

/-- s with that migration active. -/
def migratingIn (s : State) (c : MigrationContext) : State :=
  { s with migration := some c, tu := { s.tu with pool := s.tu.pool.set c.target .reserved } }

/-- A log record made from an offer. -/
def recordOf (o : Offer) : LogRecord := ⟨0, 0, 1, o, none⟩

/-- The outcome's state, where there is one. -/
def after (c : Instr) (s : State) : Option State :=
  match exec c s with
  | .next t => some t
  | .fault _ => none
  | .refused _ => none

/-! ## WellFormed and table words -/

theorem test_wf_refuses_known_code : (Instr.unknownCommand 0x20).wf = false := by decide
theorem test_wf_refuses_known_kind : (Instr.unknownFrameKind 0x01).wf = false := by decide
theorem test_wf_refuses_interval_65536 : (Instr.scrubIntervalWrite 65536).wf = false := by decide
theorem test_wf_refuses_divisor_0 : (Instr.timebaseDivWrite 0).wf = false := by decide
theorem test_wf_refuses_divisor_256 : (Instr.timebaseDivWrite 256).wf = false := by decide
theorem test_wf_refuses_mask_256 : (Instr.alertMaskWrite 256).wf = false := by decide
theorem test_wf_takes_bounds :
    (Instr.unknownCommand 0x00).wf ∧ (Instr.unknownFrameKind 0x05).wf ∧ (Instr.scrubIntervalWrite 65535).wf ∧
      (Instr.timebaseDivWrite 1).wf ∧ (Instr.timebaseDivWrite 255).wf ∧ (Instr.alertMaskWrite 255).wf := by decide
theorem test_no_word_spells_a_command : decodeTableWord 8 0x20 = none ∧ decodeTableWord 0 0 = none := by decide

/-! ## The manual's worked encodings, decodes and merge (01) -/

theorem test_worked_encodings :
    encode 0xFF = 0x03 ∧ encode 0x8000000000000001 = 0x44 ∧ encode 0 = 0x00 := by decide +kernel

theorem test_worked_decodes :
    ((decode ⟨0xFF, 0x03⟩).found, (decode ⟨0xFF, 0x03⟩).syndrome) = (.clean, 0x00) ∧
    ((decode ⟨0xDF, 0x03⟩).found, (decode ⟨0xDF, 0x03⟩).syndrome, (decode ⟨0xDF, 0x03⟩).bitPosition,
      (decode ⟨0xDF, 0x03⟩).output) = (.correctable, 0x8A, some 5, 0xFF) ∧
    ((decode ⟨0xFF, 0x07⟩).found, (decode ⟨0xFF, 0x07⟩).syndrome, (decode ⟨0xFF, 0x07⟩).bitPosition) =
      (.correctable, 0x84, some 66) ∧
    ((decode ⟨0xFF, 0x83⟩).syndrome, (decode ⟨0xFF, 0x83⟩).bitPosition) = (0x80, some 71) ∧
    ((decode ⟨0xFC, 0x03⟩).found, (decode ⟨0xFC, 0x03⟩).syndrome) = (.uncorrectable .double, 0x06) ∧
    ((decode ⟨0x80000000040000FD, 0x03⟩).found, (decode ⟨0x80000000040000FD, 0x03⟩).syndrome) =
      (.uncorrectable .multi, 0xE3) ∧
    ((decode ⟨0xF8, 0x03⟩).bitPosition, (decode ⟨0xF8, 0x03⟩).output) = (some 71, 0xF8) ∧
    (decode ⟨0x4EC, 0x03⟩).found = .clean := by decide +kernel

theorem test_worked_merge :
    merge 0x1122334455667788 0xAABBCCDDEEFF0011 0x0F = 0x11223344EEFF0011 := by decide +kernel

/-! ## Single steps of the manual's worked examples -/

/-- A grant at streak 3 with HOST, MIGRATION and SCRUB claims goes to HOST, and the streak becomes 4 (3.3). -/
theorem test_grant_host_before_migration :
    (after .grantDecision
      { migratingIn live (moving .copyRead false 0) with
        queue := [⟨readOf 0 0, .waiting, none, []⟩], seq := ⟨.none, 3⟩,
        scrub := { live.scrub with credit := 2 } }).map (·.seq) = some ⟨.host, 4⟩ := by decide +kernel

/-- At streak 4 it goes to MIGRATION, and the streak becomes 0 (3.3). -/
theorem test_grant_migration_at_fairness :
    (after .grantDecision
      { migratingIn live (moving .copyRead false 0) with
        queue := [⟨readOf 0 0, .waiting, none, []⟩], seq := ⟨.none, 4⟩,
        scrub := { live.scrub with credit := 2 } }).map (·.seq.streak) = some 0 := by decide +kernel

/-- Step B of the crossing of the spare region: from 1FFC0h (slot 0, FREE) to slot 1 (IN_USE) (04). -/
theorem test_scrub_passes_over_free_slot :
    (after .grantDecision
      { withEntry live 0x412 1 with scrub := { live.scrub with cursor := 0x1FFC0, passes := 7, credit := 2 } }).map
        (fun t => (t.scrub.cursor, t.scrub.passes)) = some (0x1FFC1, 7) := by decide +kernel

/-- Step C: over slots 2 to 63, then a wrap counted at the grant (04). -/
theorem test_scrub_wraps_at_the_grant :
    (after .grantDecision
      { withEntry live 0x412 1 with scrub := { live.scrub with cursor := 0x1FFC2, passes := 7, credit := 1 } }).map
        (fun t => (t.scrub.cursor, t.scrub.passes)) = some (0, 8) := by decide +kernel

/-- Tag 2 of the refusals answered in order: an odd address with length 2 is MALFORMED (08). -/
theorem test_malformed_request_is_refused :
    (after (.requestTaken (header true 2 1 0x203) 0 0 0 0) live).map (·.offers) =
      some [.hostRefused 0x203 .malformed 2] := by decide +kernel

/-- Tag 3: aligned, with its last beat at 1FFC3h, is out of range; answered at once in an empty queue (08). -/
theorem test_request_out_of_range_is_done_at_once :
    (after (.requestTaken (header false 3 2 0x1FFC0) 0 0 0 0) live).map (fun t => t.queue.map (·.state)) =
      some [.done] := by decide +kernel

/-- A host read beat of a CORRECTABLE word with READ_WRITEBACK 1 stores the corrected word (R47). -/
theorem test_read_beat_writes_back :
    (after .hostReadBeat (hosting { live with array := [(0x201, wordCE)] } (readOf 0x200 1) [⟨.clean, some 0⟩])).map
      (fun t => arrayRead t.array 0x201) = some wordFF := by decide +kernel

/-- Beat 2 of the burst: a skipped beat before it is recorded, and the merge corrects (3.4). -/
theorem test_merge_beat_corrects :
    (after .hostMergeBeat
      (hosting { live with array := [(2, wordCE)] } (writeOf 0 2 [⟨0xFF, 1⟩, ⟨0, 0⟩, ⟨0x0F, 0x11⟩, ⟨0xFF, 4⟩])
        [⟨.written, none⟩])).map (fun t => t.queue.map (fun p => p.results.map (·.status))) =
      some [[.written, .skipped, .mergedCorrected]] := by decide +kernel

/-- Rows 1 to 4 of writing CONFIG: 0 is not a TIMEBASE_DIV; at the clamp the pointer stays (10). -/
theorem test_config_write_out_of_range :
    (after (.timebaseDivWrite 0) { held with mgmt := { held.mgmt with window := .config, pointer := 4 } }).map
      (fun t => (t.config.timebaseDiv, t.mgmt.pointer, t.mgmt.accessError)) = some (100, 5, true) := by decide +kernel

theorem test_config_write_at_the_clamp :
    (after (.writeWord 2) { held with mgmt := { held.mgmt with window := .config, pointer := 5 } }).map
      (fun t => (t.config.migrationFairness, t.mgmt.pointer)) = some (2, 5) := by decide +kernel

/-- Row 7: the first word of a READ frame is the primer, and the holder takes ALERT_MASK, 49h (10). -/
theorem test_read_word_primer :
    (after .readWord { held with mgmt := { held.mgmt with window := .config, pointer := 3 } }).map
      (fun t => (t.misoWord, t.mgmt.holder, t.mgmt.pointer)) = some (some 0, 0x49, 4) := by decide +kernel

/-- POP_LOG of an empty log, and while BUSY (10). -/
theorem test_pop_empty_log : (after .popLog held).map (·.mgmt.lastResult) = some .empty := by decide +kernel

theorem test_pop_while_busy :
    (after .popLog { held with mgmt := { held.mgmt with busy := true } }).map
      (fun t => (t.mgmt.lost, t.mgmt.lastResult)) = some (true, .none) := by decide +kernel

/-- The last fill word after reset brings OPEN, with no command completing (R159). -/
theorem test_last_fill_word_opens :
    (after .fillWordCompletion { inTenure filling (.fill 0x1FFFF) with fillCursor := 0x1FFFF }).map
      (fun t => (t.lifecycle, t.scrub.timer, t.mgmt.lastResult)) = some (.opened, some 0, .none) := by decide +kernel

/-- UNMAP frees the slot (R31), and MAP of a mapped word is refused (R30). -/
theorem test_unmap_frees_the_slot :
    (after (.unmap 0x413) (withEntry live 0x413 5)).map (fun t => (t.tu.pool[5], t.forward 0x413)) =
      some (.free, 0x413) := by decide +kernel

theorem test_map_of_mapped_word :
    (after (.map 0x413 6) (withEntry live 0x413 5)).map (·.mgmt.lastResult) = some .mapped := by decide +kernel

/-- A UE_MIGRATE offer taken after its word has lost its owner still names the migration's L, and so does the latch (R115). -/
theorem test_migrate_record_keeps_its_logical :
    (after (.recordOffer .migrationEngine) { live with offers := [.ue (.migrate 5) 0x1FFC0 0x06] }).map
        (fun t => (t.log.records.map (·.logical), t.log.firstUE.map (·.owner))) = some ([some 5], some (some 5)) ∧
      live.owner 0x1FFC0 = none := by decide +kernel

/-- Bytes of frames (R184): POP_LOG; MAP 413h, 5, whole and with its second argument cut short; SELECT of CONFIG at index
1; kind 05h; code 00h; a READ. -/
theorem test_frame_bytes :
    [frameRow [0x04, 0x50], frameRow [0x04, 0x20, 0, 0, 0x04, 0x13, 0, 0, 0, 5],
      frameRow [0x04, 0x20, 0, 0, 0x04, 0x13, 0, 0, 0], frameRow [0x01, 0x10, 0, 1], frameRow [0x05],
      frameRow [0x04, 0x00], frameRow [0x02]] =
    [some .popLog, some (.map 0x413 5), none, some (.select 0x10 1), some (.unknownFrameKind 5),
      some (.unknownCommand 0), none] := by decide +kernel

/-- The list of command codes and the codes that name a command are the same, and each row carries its own code. -/
theorem test_codes_agree :
    ∀ code : BitVec 8,
      (commandForm code).isSome = decide (code ∈ commandCodes) ∧
      (commandRow code [1, 2]).bind commandCode = some code := by decide +kernel

/-! ## Witnesses: for each statement with hypotheses, a state and operands that meet them, clause by clause -/

/-- A state in the midst of work: an entry, a migration, watched words, a queued retirement, a record, a waiting request. -/
def working : State :=
  { migratingIn (withEntry live 1 0) (moving .verify true 3) with
    scrub := { live.scrub with credit := 2 },
    watch := [⟨5, 3, .migrating⟩, ⟨6, 3, .queued⟩, ⟨0x1FFC0, 1, .counting⟩, ⟨9, 2, .stuck⟩],
    retq := [⟨6, .watch⟩],
    queue := [⟨readOf 0 0, .waiting, none, []⟩],
    log := ⟨[recordOf .scrubOverrun], 1, 0, 0x10, none⟩,
    pending := [.grantDecision] }

theorem witness_StepRunsFrontCommand : State.reset.pending = [] := by decide

theorem witness_ExecKeepsPendingCommands : (after .frameEnd working).isSome = true := by decide +kernel

/-- The word a reset cuts off, in each tenure; the host's at the last word below H. -/
theorem witness_ResetLowCutsOffWork :
    live.pins.resetLow = false ∧ (low live).pins.resetLow = true ∧
    (inTenure live (.migration .copyWrite 0x1FFFF 0 true)).cutWord false = some 0x1FFFF ∧
    (inTenure live (.poke 0x1FFFF wordFF)).cutWord false = some 0x1FFFF ∧
    (inTenure filling (.fill 0)).cutWord false = some 0 ∧
    (inTenure live (.migration .copyRead 0 0 true)).cutWord true = none ∧
    (inTenure live (.migration .verify 0 0 true)).cutWord true = none ∧
    (inTenure live (.peek 0)).cutWord true = none ∧ live.cutWord true = none ∧
    State.cutWord { inTenure live .scrub with
      array := [(7, wordCE)], scrub := { live.scrub with step := some ⟨7, false, false⟩ } } true = some 7 ∧
    (hosting { live with array := [(0x1FFBF, wordCE)] } (readOf 0x1FFBF 0) []).cutWord true = some 0x1FFBF ∧
    (hosting live (writeOf 0x1FFBF 0 [⟨0xFF, 1⟩]) []).cutWord true = some 0x1FFBF ∧
    (hosting live (writeOf 0x1FFBE 1 [⟨0, 3⟩, ⟨0xFF, 1⟩]) []).cutWord true = some 0x1FFBF ∧
    (⟨writeOf 0x1FFBE 1 [⟨0, 3⟩, ⟨0xFF, 1⟩], .inTenure, none, []⟩ : Place).afterSkips.length = 1 ∧
    (hosting live (writeOf 0x1FFBE 1 [⟨0xFF, 1⟩, ⟨0, 3⟩]) [⟨.written, none⟩]).cutWord true = none := by decide +kernel

theorem witness_ResetRiseValues : (low live).pins.resetLow = true := by decide

theorem witness_NothingButPinsWhileResetLow :
    (low live).ResetQuiet ∧ (low live).pins.resetLow = true ∧ ∀ a p, Instr.frameStart ≠ .resetNRise a p := by
  refine ⟨by decide +kernel, by decide, fun a p h => ?_⟩
  cases h

/-- Words of each class, and of each kind of reported bit. -/
theorem witness_DecodeFollowsSyndrome :
    (decode wordFF).found ≠ .correctable ∧ (decode wordUE).found ≠ .correctable ∧
    ((decode ⟨0xFF, 0x83⟩).found = .correctable ∧ (decode ⟨0xFF, 0x83⟩).syndrome.toNat % 128 = 0) ∧
    ((decode ⟨0xFF, 0x43⟩).found = .correctable ∧ (decode ⟨0xFF, 0x43⟩).syndrome.toNat % 128 = 2 ^ 6) ∧
    ((decode ⟨0xFE, 0x03⟩).found = .correctable ∧ (decode ⟨0xFE, 0x03⟩).syndrome.toNat % 128 = position 0) ∧
    ((decode ⟨0x80000000000000FF, 0x03⟩).found = .correctable ∧
      (decode ⟨0x80000000000000FF, 0x03⟩).syndrome.toNat % 128 = position 63) := by decide +kernel

/-- The bounds 0 and 71 of the changed bits. -/
theorem witness_SingleCorrectedDoubleDetected :
    (decode (changeBit wordFF 0)).bitPosition = some 0 ∧ (decode (changeBit wordFF 71)).bitPosition = some 71 ∧
    (decode (changeBit (changeBit wordFF 0) 71)).found = .uncorrectable .double := by decide +kernel

theorem witness_OnlyTheNamedWordChanges :
    (after .fillWordCompletion (inTenure filling (.fill 0))).isSome = true ∧
    storeAddress (inTenure filling (.fill 0)) .fillWordCompletion = some 0 ∧
    storeAddress (inTenure live (.poke 7 wordFF)) .pokeCompletion ≠ some 8 := by decide +kernel

theorem witness_LookupsFollowTheTable :
    working.PoolAgrees ∧ working.LogicalsExist ∧ working.tu.table[0] = some ⟨1, .loaded, 0⟩ ∧
    (0x1FFBF < working.H ∧ working.mappedSlot 0x1FFBF = none) ∧ working.tu.pool[63] ≠ .inUse := by decide +kernel

/-- MAP: out of range at H and at slot 64; and each refusal and the take at the last address and the last slot. -/
theorem witness_MapCreatesEntry :
    live.CommandReady ∧ live.H ≤ (0x1FFC0 : MgmtWord).toNat ∧ 64 ≤ (64 : MgmtWord).toNat ∧
    (0x1FFBF : MgmtWord).toNat < live.H ∧ (63 : MgmtWord).toNat = (63 : Fin 64).val ∧
    ((withEntry live 0x1FFBF 0).mappedSlot 0x1FFBF).isSome = true ∧
    ((withEntry live 2 63).mappedSlot 0x1FFBF = none ∧ (withEntry live 2 63).tu.pool[63] ≠ .free) ∧
    (working.CommandReady ∧ working.mappedSlot 5 = none ∧ working.tu.pool[63] = .free ∧ working.migrating 5 = true ∧
      working.queuedForRetirement 6 = true) ∧
    live.mappedSlot 0x1FFBF = none ∧ live.tu.pool[63] = .free ∧ live.migrating 0x1FFBF = false ∧
      live.queuedForRetirement 0x1FFBF = false := by decide +kernel

theorem witness_UnmapRemovesEntry :
    live.H ≤ (0x1FFC0 : MgmtWord).toNat ∧ live.mappedSlot 0x1FFBF = none ∧
    (migratingIn (withEntry live 5 63) (moving .copyRead false 0)).mappedSlot 5 = some 63 ∧
    (migratingIn (withEntry live 5 63) (moving .copyRead false 0)).migrating 5 = true ∧
    (withEntry live 0x1FFBF 63).CommandReady ∧ (withEntry live 0x1FFBF 63).mappedSlot 0x1FFBF = some 63 ∧
    (withEntry live 0x1FFBF 63).migrating 0x1FFBF = false := by decide +kernel

theorem witness_SlotCommandsMoveOneSlot :
    live.CommandReady ∧ 64 ≤ (64 : MgmtWord).toNat ∧ (63 : MgmtWord).toNat = (63 : Fin 64).val ∧
    live.tu.pool[63] = .free ∧ live.tu.pool[63] ≠ .bad ∧ (live.setSlot 63 .bad).CommandReady ∧
    (live.setSlot 63 .bad).tu.pool[63] = .bad ∧ (live.setSlot 63 .bad).tu.pool[63] ≠ .free := by decide +kernel

/-- STUCK entries: none; below the threshold 3; one that passes it; and DUE entries: none, a full queue, one space.
Then several that pass, with one space left and one word active; and two DUE entries with two spaces, the older queued. -/
theorem witness_ReleasesAndHeadRemovalsOfferEntries :
    (live.WatchSound ∧ ∀ e ∈ live.watch, e.state ≠ .stuck ∧ e.state ≠ .due) ∧
    (working.WatchSound ∧ ∀ e ∈ working.watch, e.state = .stuck → e.count < working.config.ceThreshold) ∧
    (State.WatchSound { live with watch := [⟨8, 1, .counting⟩, ⟨9, 3, .stuck⟩] } ∧ live.owner 9 = some 9 ∧
      live.config.ceThreshold = 3) ∧
    (State.WatchSound { live with
        watch := [⟨8, 3, .queued⟩, ⟨9, 3, .due⟩, ⟨10, 3, .due⟩],
        retq := [⟨8, .watch⟩, ⟨20, .command⟩, ⟨21, .command⟩] } ∧
      State.queuedForRetirement { live with retq := [⟨8, .watch⟩, ⟨20, .command⟩, ⟨21, .command⟩] } 9 = false) ∧
    (let s : State := { migratingIn live (moving .copyRead false 0) with
        watch := [⟨5, 3, .stuck⟩, ⟨9, 15, .stuck⟩, ⟨10, 3, .stuck⟩, ⟨11, 2, .stuck⟩],
        retq := [⟨20, .command⟩, ⟨21, .command⟩, ⟨22, .command⟩] };
      s.WatchSound ∧ (∀ e ∈ s.watch, s.owner e.physical ≠ none) ∧
      s.releaseStuck.watch.map (·.state) = [.migrating, .queued, .due, .counting]) ∧
    (let s : State := { live with watch := [⟨9, 3, .due⟩, ⟨10, 3, .due⟩], retq := [⟨9, .command⟩, ⟨21, .command⟩] };
      s.WatchSound ∧ (∀ e ∈ s.watch, s.owner e.physical ≠ none) ∧
      s.offerDueEntries.retq = s.retq ++ [⟨10, .watch⟩]) := by
  decide +kernel

/-- Length code 3; a misaligned address; the first out of range; the last in range. -/
theorem witness_RequestDecodedAndChecked :
    (decodeRequest ⟨header true 1 3 0, 0, 0, 0, 0⟩).lengthCode = 3 ∧
    (decodeRequest ⟨header true 1 2 2, 0, 0, 0, 0⟩).refusal 0x1FFC0 = some .malformed ∧
    (decodeRequest ⟨header false 1 2 0x1FFC0, 0, 0, 0, 0⟩).refusal 0x1FFC0 = some .range ∧
    (decodeRequest ⟨header true 1 2 0x1FFBC, 0, 0, 0, 0⟩).refusal 0x1FFC0 = none := by decide +kernel

/-- Seven places taken and eight; a sound request and a refused one, behind DONE places and behind a WAITING one. -/
theorem witness_RequestGoesToTheTail :
    queueOrdered (List.replicate 7 ⟨readOf 0 0, .done, none, [⟨.clean, some 0⟩]⟩) = true ∧
    queueOrdered [⟨readOf 0 0, .waiting, none, []⟩] = true ∧
    live.pins.resetLow = false ∧ live.lifecycle = .opened ∧ held.lifecycle ≠ .opened ∧
    (decodeRequest ⟨header false 1 0 0x1FFBF, 0, 0, 0, 0⟩).refusal live.H = none ∧
    (decodeRequest ⟨header false 1 0 0x1FFC0, 0, 0, 0, 0⟩).refusal live.H = some .range ∧
    8 ≤ (List.replicate 8 (⟨readOf 0 0, .waiting, none, []⟩ : Place)).length := by decide +kernel

/-- The last response in OPEN and in each drain, and a response that leaves another place behind. -/
theorem witness_ResponseFreesTheHead :
    let p : Place := ⟨readOf 0 0, .done, none, [⟨.clean, some 0⟩]⟩
    live.pins.resetLow = false ∧ p.state = .done ∧ ({ live with queue := [p] } : State).queue = p :: [] ∧
    [p] ≠ [] ∧ live.lifecycle.isDraining = false ∧
    ({ live with queue := [p], lifecycle := .draining .hold } : State).lifecycle = .draining .hold ∧
    ({ live with queue := [p], lifecycle := .draining (.filling .opened) } : State).lifecycle =
      .draining (.filling .opened) := by decide +kernel

theorem witness_ResponseLayout :
    (⟨readOf 0 0, .done, none, [⟨.clean, some 7⟩]⟩ : Place).results[0]? = some ⟨.clean, some 7⟩ ∧
    (⟨readOf 0 0, .done, none, [⟨.clean, some 7⟩]⟩ : Place).results[3]? = none := by decide

/-- A beat at the last address below H, its word of each class. -/
theorem witness_ReadBeatAnswersByClass :
    let s := hosting { live with array := [(0x1FFBF, wordCE)] } (readOf 0x1FFBF 0) []
    s.pins.resetLow = false ∧ s.seq.tenure = .host ∧ s.placeInTenure = some ⟨readOf 0x1FFBF 0, .inTenure, none, []⟩ ∧
    0 < (readOf 0x1FFBF 0).beatCount ∧ s.forward 0x1FFBF = 0x1FFBF ∧ 0x1FFBF < s.W ∧
    (decode (arrayRead s.array 0x1FFBF)).found = .correctable ∧
    (decode (arrayRead s.array 0x1FFBF)).bitPosition = some 5 ∧
    (decode wordFF).found = .clean ∧ (decode wordUE).found = .uncorrectable .double := by decide +kernel

/-- Beat 1 of two at the last addresses below H, behind a skipped beat. -/
theorem witness_WriteBeatStoresWithoutReading :
    let s := hosting live (writeOf 0x1FFBE 1 [⟨0, 3⟩, ⟨0xFF, 7⟩]) []
    s.pins.resetLow = false ∧ s.seq.tenure = .host ∧
    s.placeInTenure = some ⟨writeOf 0x1FFBE 1 [⟨0, 3⟩, ⟨0xFF, 7⟩], .inTenure, none, []⟩ ∧
    (writeOf 0x1FFBE 1 [⟨0, 3⟩, ⟨0xFF, 7⟩]).beats.drop 0 = [⟨0, 3⟩] ++ ⟨0xFF, 7⟩ :: [] ∧
    (writeOf 0x1FFBE 1 []).address.toNat + (0 + 1) = 0x1FFBF ∧ s.forward 0x1FFBF < s.W := by decide +kernel

/-- Masks 01h and FEh at the last address below H, over a word of each class. -/
theorem witness_MergeBeatCombinesAndStores :
    let s := hosting { live with array := [(0x1FFBF, wordUE)] } (writeOf 0x1FFBF 0 [⟨0x01, 7⟩]) []
    s.pins.resetLow = false ∧ s.seq.tenure = .host ∧
    s.placeInTenure = some ⟨writeOf 0x1FFBF 0 [⟨0x01, 7⟩], .inTenure, none, []⟩ ∧
    (writeOf 0x1FFBF 0 [⟨0x01, 7⟩]).beats.drop 0 = [] ++ ⟨0x01, 7⟩ :: [] ∧
    (0x01 : ByteMask) ≠ 0 ∧ (0xFE : ByteMask) ≠ 0xFF ∧ s.forward 0x1FFBF < s.W ∧
    (decode (arrayRead s.array 0x1FFBF)).found = .uncorrectable .double ∧
    (decode wordCE).bitPosition = some 5 ∧ (decode wordFF).found = .clean := by decide +kernel

/-- A DONE place ahead, a refused one directly behind, and a sound one behind that. -/
theorem witness_CompletionMakesPlacesDone :
    let pl : Place := ⟨writeOf 0 1 [⟨0xFF, 1⟩, ⟨0, 2⟩], .inTenure, none, [⟨.written, none⟩]⟩
    let refused : Place := ⟨readOf 0x1FFC0 0, .waiting, some .range, [⟨.refused, some 0⟩]⟩
    let s : State := { live with
      seq := ⟨.host, 1⟩,
      queue := [⟨readOf 0 0, .done, none, [⟨.clean, some 0⟩]⟩] ++ pl :: ([refused] ++ [⟨readOf 0 0, .waiting, none, []⟩]) }
    s.pins.resetLow = false ∧ s.seq.tenure = .host ∧ pl.state = .inTenure ∧
    pl.request.beats.drop pl.results.length = [⟨0, 2⟩] ∧ pl.results.length + 1 = pl.request.beatCount ∧
    (after .hostTenureCompletion s).map (fun t => t.queue.map (·.state)) = some [.done, .done, .done, .waiting] := by
  decide +kernel

/-- The port free in FILLING, at the last word and beyond it, and in OPEN. -/
theorem witness_GrantFollowsPrecedence :
    filling.pins.resetLow = false ∧ filling.seq.tenure = .none ∧ filling.lifecycle.isFilling = true ∧
    0x1FFFF < filling.W ∧ ¬ 0x20000 < filling.W ∧ live.seq.tenure = .none ∧ live.lifecycle.isFilling = false := by
  decide +kernel

/-- A WAITING place behind a DONE one; no WAITING place; a migration; a claim of each kind. -/
theorem witness_GrantsSetTheTenure :
    let d : Place := ⟨readOf 0 0, .done, none, [⟨.clean, some 0⟩]⟩
    let w : Place := ⟨writeOf 5 0 [⟨0xFF, 1⟩], .waiting, none, []⟩
    let s : State := { working with queue := [d, w] }
    s.queue = [d] ++ w :: [] ∧ (∀ x ∈ [d], x.state ≠ .waiting) ∧ w.state = .waiting ∧
    (∀ x ∈ live.queue, x.state ≠ .waiting) ∧ s.migration = some (moving .verify true 3) ∧
    ({ live.mgmt with diagClaim := some (.peek 0x1FFFF) } : Mgmt).diagClaim = some (.peek 0x1FFFF) ∧
    ({ live.mgmt with diagClaim := some (.poke 0x1FFFF) } : Mgmt).diagClaim = some (.poke 0x1FFFF) := by
  decide +kernel

theorem witness_ScrubTargetIsFirstWordInService :
    0x1FFFF < ({ live with scrub := { live.scrub with cursor := 0x1FFFF } } : State).W ∧
    State.scrubTarget { live with scrub := { live.scrub with cursor := 0x1FFFF } } = (0, 1) := by decide +kernel

/-- A full log whose first record is a NOTICE, one of SEVERE records only, and a newest record that matches. -/
theorem witness_OfferMergesAppendsDisplacesOrDrops :
    let severe := List.replicate 15 (recordOf (.slotsExhausted 1))
    let s : State := { live with
      offers := [.scrubOverrun, .ue .host 9 0x06],
      log := { live.log with records := recordOf .scrubOverrun :: severe } }
    s.pins.resetLow = false ∧ s.offers = [.scrubOverrun] ++ .ue .host 9 0x06 :: [] ∧
    (Offer.ue .host 9 0x06).source = .sequencer ∧ Offer.scrubOverrun.source ≠ .sequencer ∧
    16 ≤ s.log.records.length ∧ (Offer.ue .host 9 0x06).severe = true ∧
    s.log.records = [] ++ recordOf .scrubOverrun :: severe ∧ Offer.scrubOverrun.severe = false ∧
    s.log.records.getLast? = some (recordOf (.slotsExhausted 1)) ∧
    (Offer.slotsExhausted 1).kindCode ≠ (Offer.ue .host 9 0x06).kindCode ∧
    16 ≤ (recordOf (.slotsExhausted 2) :: severe).length ∧ severe.length < 16 ∧
    (∀ r ∈ recordOf (.slotsExhausted 2) :: severe, r.offer.severe = true) ∧
    (Offer.ue (.migrate 5) 9 0x06).source = .migrationEngine ∧
    live.log.records ++ [recordOf (.ue .host 9 0x80)] = [recordOf (.ue .host 9 0x80)] ∧
    (Offer.ue .host 9 0x80).addressKey live.H = (Offer.ue .host 9 0x06).addressKey live.H ∧ s.log.firstUE = none := by
  decide +kernel

/-- No owner; a watched word at threshold 3, below it and at it; a full list with a COUNTING entry and without one. -/
theorem witness_ReportIsCountedOrInserted :
    let full : State := { live with
      watch := ⟨9, 1, .counting⟩ :: (List.range 7).map fun i => ⟨10 + i, 1, .stuck⟩,
      reports := [⟨.scrubStep, 1⟩, ⟨.hostBeat, 0x1FFBF⟩] }
    full.WatchSound ∧ full.pins.resetLow = false ∧ full.owner 0x1FFBF = some 0x1FFBF ∧ full.owner 0x1FFFF = none ∧
    (∀ e ∈ full.watch, e.physical ≠ 0x1FFBF) ∧ 8 ≤ full.watch.length ∧
    full.watch = [] ++ ⟨9, 1, .counting⟩ :: (List.range 7).map (fun i => ⟨10 + i, 1, .stuck⟩) ∧
    State.WatchSound { live with watch := (List.range 8).map fun i => ⟨10 + i, 1, .stuck⟩ } ∧
    State.WatchSound { live with watch := [⟨9, 2, .counting⟩] } ∧ live.owner 9 = some 9 ∧ live.watch.length < 8 ∧
    live.config.ceThreshold = 3 := by decide +kernel

/-- RETIRE at H and at the last address below it, of the migration's word, of a queued one, and with the queue full;
SCRUB_SEEK at W and at the last word. -/
theorem witness_RetireClearWatchAndSeek :
    live.CommandReady ∧ live.H ≤ (0x1FFC0 : MgmtWord).toNat ∧ (0x1FFBF : MgmtWord).toNat < live.H ∧
    (working.CommandReady ∧ working.migrating 5 = true ∧ working.queuedForRetirement 6 = true) ∧
    live.migrating 0x1FFBF = false ∧ live.queuedForRetirement 0x1FFBF = false ∧ live.retq.length < 4 ∧
    (let full : State := { live with retq := [⟨1, .watch⟩, ⟨2, .watch⟩, ⟨3, .watch⟩, ⟨4, .watch⟩] };
      full.CommandReady ∧ full.queuedForRetirement 0x1FFBF = false ∧ 4 ≤ full.retq.length) ∧
    live.W ≤ (0x20000 : MgmtWord).toNat ∧ (0x1FFFF : MgmtWord).toNat < live.W := by decide +kernel

theorem witness_LogCommandsRemoveOnlyTheirs :
    live.CommandReady ∧ live.log.records = [] ∧ working.CommandReady ∧
    working.log.records = [recordOf .scrubOverrun] := by decide +kernel

/-- One period short of 100, and at it; a timer one short of 1000, and at it, and none; credit 3 and 4. The count and the
timer at their limits meet together. -/
theorem witness_ClockRowsAdvanceTime :
    live.pins.resetLow = false ∧ 99 < live.config.timebaseDiv ∧ 100 = live.config.timebaseDiv ∧
    999 < live.config.scrubInterval ∧ 1000 = live.config.scrubInterval ∧ filling.scrub.timer = none ∧
    live.scrub.periodCount < live.config.timebaseDiv ∧
    (let s : State := { live with scrub := { live.scrub with periodCount := 100, timer := some 1000, credit := 4 } };
      s.scrub.periodCount = s.config.timebaseDiv ∧ s.scrub.timer = some s.config.scrubInterval ∧ 4 ≤ s.scrub.credit ∧
      s.TimebaseSound) := by
  decide +kernel

/-- A step at the last word and at the one before it, not decoded and decoded, over each class. -/
theorem witness_ScrubStepChecksItsTarget :
    let s : State := { inTenure live .scrub with
      array := [(0x1FFFF, wordCE)], scrub := { live.scrub with credit := 1, step := some ⟨0x1FFFF, false, false⟩ } }
    s.pins.resetLow = false ∧ s.seq.tenure = .scrub ∧ s.scrub.step = some ⟨0x1FFFF, false, false⟩ ∧ 0x1FFFF < s.W ∧
    0x1FFFF + 1 = s.W ∧ 0x1FFFE + 1 < s.W ∧ (decode (arrayRead s.array 0x1FFFF)).found = .correctable ∧
    (decode wordFF).found = .clean ∧ (decode wordUE).found = .uncorrectable .double := by decide +kernel

/-- The head of a queue of one, in OPEN and in HOLD, with slot 0 FREE, with slot 63 the only FREE one, and with none. -/
theorem witness_StartReservesLowestFreeSlot :
    let s : State := { live with retq := [⟨6, .command⟩] }
    let bad := Vector.replicate 64 SlotState.bad
    s.pins.resetLow = false ∧ s.migration = none ∧ s.lifecycle = .opened ∧ held.lifecycle = .hold ∧
    s.retq = ⟨6, .command⟩ :: [] ∧ s.tu.pool[0] = .free ∧
    ((bad.set 63 .free)[63] = .free ∧ ∀ j : Fin 64, j < 63 → (bad.set 63 .free)[j] ≠ .free) ∧
    (∀ k : Fin 64, bad[k] ≠ .free) := by decide +kernel

theorem witness_CopyTenuresMoveTheWord :
    let s := inTenure (migratingIn { live with array := [(5, wordCE)] } (moving .copyRead false 0))
      (.migration .copyRead 5 0 true)
    s.pins.resetLow = false ∧ s.migration = some (moving .copyRead false 0) ∧ 5 < s.W ∧ 0x1FFC1 < s.W ∧
    (decode (arrayRead s.array 5)).found = .correctable ∧ (decode (arrayRead s.array 5)).bitPosition = some 5 ∧
    (decode wordFF).found = .clean ∧ (decode wordUE).found = .uncorrectable .double := by decide +kernel

/-- Good and dirty with 2 and 3 restarts; good and clean, unmapped and mapped; a failed copy with and without a slot. -/
theorem witness_VerifyInstallsRestartsOrReplaces :
    let s := inTenure (migratingIn { live with array := [(0x1FFC1, wordFF)] } (moving .verify true 2))
      (.migration .verify 0x1FFC1 0xFF true)
    s.pins.resetLow = false ∧ s.migration = some (moving .verify true 2) ∧ 0x1FFC1 < s.W ∧
    (decode (arrayRead s.array 0x1FFC1)).found = .clean ∧
    (moving .verify true 2).buffer = some (decode (arrayRead s.array 0x1FFC1)).output ∧
    s.mappedSlot 5 = none ∧ (withEntry s 5 63).mappedSlot 5 = some 63 ∧
    (decode wordUE).found ≠ .clean ∧ (0 : Fin 64) ≠ (moving .verify true 2).target ∧ s.tu.pool[0] = .free ∧
    (∀ k : Fin 64, (Vector.replicate 64 SlotState.bad)[k] ≠ .free) := by decide +kernel

theorem witness_OrphanedOutcomesAreDiscarded :
    live.pins.resetLow = false ∧ 0x1FFFF < live.W ∧
    (inTenure live (.migration .copyWrite 0x1FFFF 0 false)).seq.tenure = .migration .copyWrite 0x1FFFF 0 false := by
  decide +kernel

theorem witness_CancelEndsTheMigration :
    live.CommandReady ∧ live.migration = none ∧ working.CommandReady ∧
    working.migration = some (moving .verify true 3) := by decide +kernel

/-- The first word, the last but one and the last; with no command and with FILL in progress. -/
theorem witness_FillWritesZeroWords :
    filling.pins.resetLow = false ∧ (inTenure filling (.fill 0)).seq.tenure = .fill 0 ∧ 0x1FFFF < filling.W ∧
    filling.lifecycle = .filling .opened ∧ filling.fillCursor + 1 ≠ filling.W ∧ 0x1FFFF + 1 = filling.W ∧
    filling.mgmt.busy = false := by decide +kernel

theorem witness_LifecycleCommandsMoveTheState :
    held.CommandReady ∧ held.lifecycle = .hold ∧ live.CommandReady ∧ live.lifecycle = .opened ∧ live.queue = [] ∧
    working.queue ≠ [] ∧ filling.CommandReady ∧ filling.lifecycle.isFilling = true ∧ live.migration = none ∧
    working.migration = some (moving .verify true 3) := by decide +kernel

theorem witness_SoftResetReturnsWorkingRecords : working.CommandReady ∧ filling.CommandReady := by decide +kernel

theorem witness_PeekAndPokeReachAnyWord :
    live.CommandReady ∧ held.CommandReady ∧ filling.CommandReady ∧ live.W ≤ (0x20000 : MgmtWord).toNat ∧
    (0x1FFFF : MgmtWord).toNat < live.W ∧ filling.lifecycle.isFilling = true ∧ held.lifecycle = .hold ∧
    live.lifecycle = .opened ∧ (inTenure live (.peek 0x1FFFF)).seq.tenure = .peek 0x1FFFF ∧
    (inTenure live (.poke 0x1FFFF wordUE)).pins.resetLow = false := by decide +kernel

theorem witness_BusyDiscardsEveryCommand :
    let s : State := { live with mgmt := { live.mgmt with busy := true } }
    commandCode .softReset = some codeSoftReset ∧ commandCode (.unknownCommand 0) = some 0 ∧
    s.frameAccepts = true ∧ s.mgmt.busy = true := by decide +kernel

/-- Codes at the ends of the windows' range and just beyond them; kinds 00h and 05h; a frame begun and one not begun. -/
theorem witness_FramesSelectAndUnknownCodes :
    live.pins.resetLow = false ∧ live.pins.ssnLow = false ∧ live.frameAccepts = true ∧ live.CommandReady ∧
    (0 : BitVec 8).toNat = 0 ∧ 4 < (5 : BitVec 8).toNat ∧ (0x00 : BitVec 8) ∉ commandCodes ∧
    (0x70 : BitVec 8) ∉ commandCodes ∧ windowOfCode 0x10 = some .config ∧ windowOfCode 0x18 = some .diag ∧
    windowOfCode 0x0F = none ∧ windowOfCode 0x19 = none ∧
    State.CommandReady { live with
      pins := { live.pins with ssnLow := true },
      mgmt := { live.mgmt with frame := .running .fresh 40 } } ∧
    ([0x10, 0] : List (BitVec 8)).length < 3 ∧ (wordBytes 5 ++ [0, 0, 0]).length < 8 ∧
    ([0, 0, 0] : List (BitVec 8)).length < 4 := by decide +kernel

/-- The first word of a READ frame and a later one; with the WRITE statements' frame beside them. -/
theorem witness_ReadWordShiftsTheHolder :
    let s : State := { live with
      pins := { live.pins with ssnLow := true }, mgmt := { live.mgmt with frame := .running .read 8 } }
    live.pins.resetLow = false ∧ live.frameAccepts = true ∧ s.pins.resetLow = false ∧ s.pins.ssnLow = true ∧
    s.mgmt.frame = .running .read 8 := by decide +kernel

/-- Each CONFIG word's last value in range and the first beyond it. -/
theorem witness_ConfigWordsTakeValuesInRange :
    let s : State := { live with mgmt := { live.mgmt with window := .config, pointer := 5 } }
    s.pins.resetLow = false ∧ s.mgmt.window = .config ∧ s.frameAccepts = true ∧ s.mgmt.pointer = 5 ∧
    (15 : MgmtWord).toNat ≤ 15 ∧ ¬ (16 : MgmtWord).toNat ≤ 15 ∧ (65535 : MgmtWord).toNat ≤ 65535 ∧
    ¬ (65536 : MgmtWord).toNat ≤ 65535 ∧ (255 : MgmtWord).toNat ≤ 255 ∧ ¬ (256 : MgmtWord).toNat ≤ 255 ∧
    ({ live.mgmt with frame := .running .write 40 } : Mgmt).frame = .running .write 40 := by decide +kernel

/-- NONE selected, and DIAG at its last index, in a WRITE frame's first word and in a later one. -/
theorem witness_OtherWindowsTakeDiagOnly :
    let s : State := { live with
      pins := { live.pins with ssnLow := true },
      mgmt := { live.mgmt with frame := .running .write 40, window := .diag, pointer := 3 } }
    live.pins.resetLow = false ∧ live.frameAccepts = true ∧ live.mgmt.window ≠ .config ∧ live.mgmt.window ≠ .diag ∧
    s.pins.ssnLow = true ∧ s.mgmt.frame = .running .write 40 ∧ s.mgmt.window = .diag ∧ s.mgmt.pointer = 3 ∧
    (255 : MgmtWord).toNat ≤ 255 ∧ ¬ (256 : MgmtWord).toNat ≤ 255 := by decide +kernel

/-- Each window's words with a holder behind them and without: slots 0 and 63, watch elements 0 and 4, the first-UE latch
with a logical address and clear, a head record and none, a migration and none. -/
theorem witness_WindowWordsHoldTheirFields :
    let s : State := { working with
      log := { working.log with firstUE := some ⟨.migrate 5, 9, some 5⟩, records := [recordOf (.ue .host 9 0x06)] } }
    working.tu.table[0] = some ⟨1, .loaded, 0⟩ ∧ working.tu.table[63] = none ∧
    working.log.records = [recordOf .scrubOverrun] ∧ live.log.records = [] ∧ working.log.firstUE = none ∧
    s.log.firstUE = some ⟨.migrate 5, 9, some 5⟩ ∧ s.log.records = recordOf (.ue .host 9 0x06) :: [] ∧
    working.migration = some (moving .verify true 3) ∧ live.migration = none ∧
    working.watch[0]? = some ⟨5, 3, .migrating⟩ ∧ working.owner 5 = some 5 ∧ working.watch[4]? = none ∧
    working.retq[0]? = some ⟨6, .watch⟩ ∧ working.retq[1]? = none ∧
    (s.windowWord .status 6, s.windowWord .status 7, s.windowWord .log 0, s.windowWord .migration 0,
      s.windowWord .repair 1, s.windowWord .watch 0) =
      (0xC8000009, 5, 0xC5010000, 0xD3000005, 0x8001FFC0, 0xB3000005) := by decide +kernel

/-- One state meets every invariant, and its next step answers next: the state of the array, time, log and port. -/
theorem witness_invariants_of_array_and_time :
    working.ArrayCanonical ∧ working.TimebaseSound ∧ working.ScrubberSound ∧ working.LogSound ∧ working.PortSound ∧
    working.ResetQuiet := by decide +kernel

/-- For PoolKeepsAgreeing, AccountingStaysSound and WatchKeepsAgreeing. -/
theorem witness_invariants_of_table_and_accounting :
    working.PoolAgrees ∧ working.RetirementSound ∧ working.WatchSound ∧ working.WatchAgrees :=
  ⟨by decide +kernel, by decide +kernel, by decide +kernel, by decide +kernel⟩

/-- For QueueStaysSound, MigrationStaysSound, LifecycleStaysSound and EveryAccessExists. -/
theorem witness_invariants_of_queue_and_migration :
    working.QueueSound ∧ working.MigrationSound ∧ working.LifecycleSound ∧ working.AccessSound :=
  ⟨by decide +kernel, by decide +kernel, by decide +kernel, by decide +kernel⟩

/-- That state's step, a grant to the host, answers next. -/
theorem witness_invariants_step : (match step working with | .next t => t.seq.streak | _ => 99) = 1 := by decide +kernel

end Sys2Proof.Tests
end

/-! ## The check code (01): laws of the Check Unit, and O6, O7 and O9 -/

namespace Sys2Proof.Machine

/-! ### Parity -/

theorem parityUpTo_eq_foldl {w : Nat} (v : BitVec w) (n : Nat) :
    parityUpTo v n = (List.range n).foldl (fun x i => x ^^ v.getLsbD i) false := by
  induction n with
  | zero => rfl
  | succ n ih => simp [parityUpTo, List.range_succ, ih]

/-- Words that agree below n, of whatever widths, have the same parity below n. -/
theorem parityUpTo_congr {w w' : Nat} {u : BitVec w} {v : BitVec w'} {n : Nat}
    (h : ∀ j < n, u.getLsbD j = v.getLsbD j) : parityUpTo u n = parityUpTo v n := by
  induction n with
  | zero => rfl
  | succ n ih => simp only [parityUpTo, ih fun j hj => h j (by omega), h n (by omega)]

theorem parityUpTo_xor {w : Nat} (u v : BitVec w) (n : Nat) :
    parityUpTo (u ^^^ v) n = (parityUpTo u n ^^ parityUpTo v n) := by
  induction n with
  | zero => rfl
  | succ n ih =>
    simp only [parityUpTo, ih, BitVec.getLsbD_xor, Bool.xor_assoc, Bool.xor_left_comm (parityUpTo v n)]

theorem parity_xor {w : Nat} (u v : BitVec w) : parity (u ^^^ v) = (parity u ^^ parity v) :=
  parityUpTo_xor u v w

/-! ### The check byte (R2, R3) -/

/-- Bit j of the sum of positions is the exclusive-OR of the data bits whose position has bit j set. -/
theorem getLsbD_positionSum (d : DataWord) (n : Nat) {j : Nat} (hj : j < 7) :
    (positionSum d n).getLsbD j =
      (List.range n).foldl (fun x i => x ^^ (d.getLsbD i && (position i).testBit j)) false := by
  induction n with
  | zero => simp [positionSum]
  | succ n ih =>
    rw [List.range_succ, List.foldl_append, ← ih, positionSum, BitVec.getLsbD_xor]
    cases hbit : d.getLsbD n with
    | false => simp [hbit]
    | true => simp [hbit, hj, BitVec.getLsbD_ofNat, -BitVec.getLsbD_eq_getElem]

/-- The layout of a check byte and of a syndrome: seven bits below, and the parity bit in bit 7. -/
theorem getLsbD_ofBool_append (b : Bool) (v : BitVec 7) {j : Nat} (hj : j < 7) :
    (BitVec.ofBool b ++ v : BitVec 8).getLsbD j = v.getLsbD j := by
  rw [BitVec.getLsbD_append, if_pos hj]

theorem getLsbD_ofBool_append_seven (b : Bool) (v : BitVec 7) :
    (BitVec.ofBool b ++ v : BitVec 8).getLsbD 7 = b := by
  rw [BitVec.getLsbD_append, if_neg (by omega), BitVec.getLsbD_ofBool]
  simp

theorem getLsbD_encode_of_lt (d : DataWord) {j : Nat} (hj : j < 7) :
    (encode d).getLsbD j = (checkBits d).getLsbD j :=
  getLsbD_ofBool_append _ _ hj

theorem getLsbD_encode_seven (d : DataWord) :
    (encode d).getLsbD 7 = (parity d ^^ parity (checkBits d)) :=
  getLsbD_ofBool_append_seven _ _

theorem parityUpTo_encode_seven (d : DataWord) : parityUpTo (encode d) 7 = parity (checkBits d) :=
  parityUpTo_congr fun _ hj => getLsbD_encode_of_lt d hj

/-- c7 makes the number of ones among the 72 bits even. -/
theorem parity_encode (d : DataWord) : parity (encode d) = parity d := by
  change (parityUpTo (encode d) 7 ^^ (encode d).getLsbD 7) = parity d
  rw [parityUpTo_encode_seven, getLsbD_encode_seven]
  cases parity d <;> simp

theorem encode_zero : encode 0 = 0 := by decide +kernel

/-- Settles O6: bits 0 to 6 by induction along the data bits, bit 7 and the even number of ones by the parity of the
check bits below it. -/
theorem encodeFormsCheckByte : Obligations.EncodeFormsCheckByte := by
  refine ⟨by decide, fun d => ⟨fun j hj => ?checkBit, ?parityBit, ?evenOnes, encode_zero⟩⟩
  case checkBit => rw [getLsbD_encode_of_lt d hj, checkBits, getLsbD_positionSum d 64 hj]
  case parityBit =>
    rw [← parityUpTo_eq_foldl, ← parityUpTo_eq_foldl, parityUpTo_encode_seven]
    exact getLsbD_encode_seven d
  case evenOnes =>
    rw [← parityUpTo_eq_foldl, ← parityUpTo_eq_foldl]
    exact (parity_encode d).symm

/-! ### The syndrome and its class (R4, R5) -/

theorem getLsbD_syndrome_of_lt (w : ArrayWord) {j : Nat} (hj : j < 7) :
    (syndrome w).getLsbD j = ((encode w.data).getLsbD j ^^ w.check.getLsbD j) := by
  rw [syndrome, getLsbD_ofBool_append _ _ hj, getLsbD_encode_of_lt _ hj, BitVec.getLsbD_xor, BitVec.getLsbD_setWidth]
  simp [hj]

theorem getLsbD_syndrome_seven (w : ArrayWord) :
    (syndrome w).getLsbD 7 = (parity w.data ^^ parity w.check) :=
  getLsbD_ofBool_append_seven _ _

theorem toNat_lt_128_iff (syn : BitVec 8) : syn.toNat < 128 ↔ syn.getLsbD 7 = false := by
  change _ ↔ syn.getLsbD (8 - 1) = false
  rw [← BitVec.msb_eq_getLsbD_last, BitVec.msb_eq_false_iff_two_mul_lt]
  omega

theorem classOf_eq (syn : BitVec 8) :
    classOf syn =
      if syn.getLsbD 7 = false then
        if syn.toNat % 128 = 0 then .clean else .uncorrectable .double
      else if syn.toNat % 128 ≤ 71 then .correctable else .uncorrectable .multi := by
  simp only [classOf, toNat_lt_128_iff]

/-- Changing check bits of a correct array word by e gives the syndrome of e alone. -/
theorem syndrome_encode_xor (d : DataWord) (e : CheckByte) :
    syndrome ⟨d, encode d ^^^ e⟩ = BitVec.ofBool (parity e) ++ e.setWidth 7 := by
  refine BitVec.eq_of_getLsbD_eq fun j hj => ?_
  obtain hlow | rfl : j < 7 ∨ j = 7 := by omega
  · rw [getLsbD_syndrome_of_lt _ hlow, getLsbD_ofBool_append _ _ hlow, BitVec.getLsbD_xor, BitVec.getLsbD_setWidth]
    simp [hlow]
  · rw [getLsbD_syndrome_seven, getLsbD_ofBool_append_seven, parity_xor, parity_encode]
    simp

/-! ### The reported bit and the data output (R6, R7) -/

@[simp] theorem decode_found (w : ArrayWord) : (decode w).found = classOf (syndrome w) := rfl

@[simp] theorem decode_syndrome (w : ArrayWord) : (decode w).syndrome = syndrome w := rfl

@[simp] theorem decode_bitPosition (w : ArrayWord) : (decode w).bitPosition = reportedBit (syndrome w) := rfl

theorem reportedBit_of_correctable {syn : BitVec 8} (h : classOf syn = .correctable) :
    reportedBit syn = some (namedBit (syn.toNat % 128)) := by
  simp [reportedBit, h]

theorem reportedBit_of_not_correctable {syn : BitVec 8} (h : classOf syn ≠ .correctable) :
    reportedBit syn = none := by
  cases hc : classOf syn <;> simp_all [reportedBit]

theorem output_of_reportedBit_none {w : ArrayWord} (h : reportedBit (syndrome w) = none) :
    (decode w).output = w.data := by
  simp [decode, h]

/-- A reported check bit leaves the data as stored. -/
theorem output_of_reported_checkBit {w : ArrayWord} {b : Nat} (h : reportedBit (syndrome w) = some b) (hb : 64 ≤ b) :
    (decode w).output = w.data := by
  simp [decode, h, Nat.not_lt.mpr hb]

theorem output_of_reported_dataBit {w : ArrayWord} {b : Nat} (h : reportedBit (syndrome w) = some b) (hb : b < 64) :
    (decode w).output = w.data ^^^ BitVec.twoPow 64 b := by
  simp [decode, h, hb, flipBit]

theorem namedBit_zero : namedBit 0 = 71 := rfl

theorem namedBit_two_pow : ∀ j < 7, namedBit (2 ^ j) = 64 + j := by decide

theorem namedBit_position : ∀ i < 64, namedBit (position i) = i := by decide

/-- Settles O7: the syndrome bit by bit, then the bit that each value of s names in a correctable word. -/
theorem decodeFollowsSyndrome : Obligations.DecodeFollowsSyndrome := by
  intro w
  simp only [decode_found, decode_syndrome, decode_bitPosition]
  refine ⟨fun j hj => getLsbD_syndrome_of_lt w hj, ?parityBit, classOf_eq _, fun hne => ?notCorrectable,
    fun hc => ?correctable, rfl⟩
  case parityBit =>
    rw [← parityUpTo_eq_foldl, ← parityUpTo_eq_foldl]
    exact getLsbD_syndrome_seven w
  case notCorrectable =>
    have hnone := reportedBit_of_not_correctable hne
    exact ⟨hnone, output_of_reportedBit_none hnone⟩
  case correctable =>
    have hsome := reportedBit_of_correctable hc
    refine ⟨fun hs => ?parity, fun j hj hs => ?checkBit, fun i hi hs => ?dataBit⟩
    case parity =>
      rw [hs, namedBit_zero] at hsome
      exact ⟨hsome, output_of_reported_checkBit hsome (by omega)⟩
    case checkBit =>
      rw [hs, namedBit_two_pow j hj] at hsome
      exact ⟨hsome, output_of_reported_checkBit hsome (by omega)⟩
    case dataBit =>
      rw [hs, namedBit_position i hi] at hsome
      exact ⟨hsome, output_of_reported_dataBit hsome hi⟩

/-! ### The poison check byte (R10) -/

theorem encode_FF : encode 0xFF = 0x03 := by decide +kernel

theorem syndrome_poison (d : DataWord) : syndrome ⟨d, poison d⟩ = 0x03 := by
  rw [poison, syndrome_encode_xor]
  decide

theorem found_poison (d : DataWord) : (decode ⟨d, poison d⟩).found = .uncorrectable .double := by
  rw [decode_found, syndrome_poison]
  decide

theorem getLsbD_poison (d : DataWord) {j : Nat} (hj : j < 8) :
    (poison d).getLsbD j = ((encode d).getLsbD j ^^ decide (j < 2)) := by
  have hmask : ∀ j < 8, (0x03 : CheckByte).getLsbD j = decide (j < 2) := by decide
  rw [poison, BitVec.getLsbD_xor, hmask j hj]

/-! ### The merge (R12) -/

/-- A byte above the lowest one is a byte of the bits above that. -/
theorem extractLsb'_append_byte {n : Nat} (x : BitVec n) (y : BitVec 8) (start : Nat) :
    (x ++ y).extractLsb' (start + 8) 8 = x.extractLsb' start 8 := by
  rw [BitVec.extractLsb'_append_eq_of_le (by omega), Nat.add_sub_cancel]

/-- Byte k lies k bytes up the chain of appended bytes; byte 7 is its head. -/
theorem byteOf_merge (old new : DataWord) (mask : ByteMask) {k : Nat} (hk : k < 8) :
    byteOf (merge old new mask) k = mergedByte old new mask k := by
  obtain hlow | rfl : k < 7 ∨ k = 7 := by omega
  · interval_cases k
    all_goals
      repeat refine (extractLsb'_append_byte _ _ _).trans ?_
      exact BitVec.extractLsb'_append_eq_right
  · iterate 6 refine (extractLsb'_append_byte _ _ _).trans ?_
    exact BitVec.extractLsb'_append_eq_left

/-- A data word is its eight bytes. -/
theorem eq_of_byteOf_eq {x y : DataWord} (h : ∀ k < 8, byteOf x k = byteOf y k) : x = y := by
  refine BitVec.eq_of_getLsbD_eq fun i hi => ?_
  have hbit := congrArg (·.getLsbD (i % 8)) (h (i / 8) (by omega))
  simpa [byteOf, Nat.mod_lt, Nat.div_add_mod] using hbit

theorem merge_full (old new : DataWord) : merge old new 0xFF = new := by
  have hmask : ∀ k < 8, (0xFF : ByteMask).getLsbD k = true := by decide
  refine eq_of_byteOf_eq fun k hk => ?_
  rw [byteOf_merge _ _ _ hk, mergedByte, if_pos (hmask k hk)]

theorem merge_empty (old new : DataWord) : merge old new 0x00 = old := by
  refine eq_of_byteOf_eq fun k hk => ?_
  rw [byteOf_merge _ _ _ hk, mergedByte, if_neg (by simp)]

/-- Settles O9: the poison check byte differs from the correct one by 03h, which is therefore its syndrome; the merge by
its bytes. -/
theorem poisonAndMergeFormWords : Obligations.PoisonAndMergeFormWords := by
  refine ⟨⟨fun d => ⟨?c0, ?c1, fun j hlow hj => ?others, syndrome_poison d, found_poison d⟩, encode_FF, ?ofFF, ?ofZero⟩,
    fun old new mask => ⟨fun k hk => byteOf_merge old new mask hk, merge_full old new, merge_empty old new⟩⟩
  case c0 => rw [getLsbD_poison d (by omega)]; simp
  case c1 => rw [getLsbD_poison d (by omega)]; simp
  case others => rw [getLsbD_poison d hj, decide_eq_false (by omega), Bool.xor_false]
  case ofFF => rw [poison, encode_FF]; decide
  case ofZero => rw [poison, encode_zero]; decide

end Sys2Proof.Machine

/-! ## Logical words and physical words (02): laws of the lookups, and O11 -/

namespace Sys2Proof.Machine

/-! ### Forward lookup (R25) -/

/-- Where no two entries have one logical address, an entry's slot is the one that its logical address finds. -/
theorem State.PoolAgrees.mappedSlot_of_entry {s : State} (hpool : s.PoolAgrees) {k : Fin 64} {e : RepairEntry}
    (he : s.tu.table[k] = some e) : s.mappedSlot e.logical = some k := by
  obtain ⟨-, -, hdistinct, -⟩ := hpool
  cases hfound : s.mappedSlot e.logical with
  | none => exact absurd rfl (State.mappedSlot_none.mp hfound k e he)
  | some j =>
    obtain ⟨d, hd, hlogical⟩ := State.mappedSlot_some hfound
    rw [hdistinct j k d hd e he hlogical]

theorem State.forward_of_mapped {s : State} {l : Nat} {k : Fin 64} (h : s.mappedSlot l = some k) :
    s.forward l = s.slotAddress k := by
  simp only [State.forward, h]

theorem State.forward_of_unmapped {s : State} {l : Nat} (h : s.mappedSlot l = none) : s.forward l = l := by
  simp only [State.forward, h]

/-! ### The kind of a physical address (R18), and the reverse lookup's answer for each kind (R27) -/

theorem State.kindAt_home {s : State} {p : Nat} (hp : p < s.H) (h : s.mappedSlot p = none) :
    s.kindAt p = some .home := by
  rw [State.kindAt, if_pos hp, h, if_neg (by simp)]

theorem State.kindAt_retired {s : State} {p : Nat} {k : Fin 64} (hp : p < s.H) (h : s.mappedSlot p = some k) :
    s.kindAt p = some .retired := by
  rw [State.kindAt, if_pos hp, h, if_pos Option.isSome_some]

/-- In the spare region the pool alone decides the kind. -/
theorem State.kindAt_slotAddress (s : State) (k : Fin 64) :
    s.kindAt (s.slotAddress k) = some (if s.tu.pool[k] = .inUse then .slotInUse k else .idleSlot k) := by
  have hspare : ¬ s.slotAddress k < s.H := by simp [State.slotAddress]
  rw [State.kindAt, if_neg hspare, State.slotAt_slotAddress, Option.map_some]

theorem State.owner_home {s : State} {p : Nat} (hp : p < s.H) (h : s.mappedSlot p = none) : s.owner p = some p := by
  unfold State.owner
  rw [State.kindAt_home hp h]

theorem State.owner_retired {s : State} {p : Nat} {k : Fin 64} (hp : p < s.H) (h : s.mappedSlot p = some k) :
    s.owner p = none := by
  unfold State.owner
  rw [State.kindAt_retired hp h]

theorem State.owner_slotInUse {s : State} {k : Fin 64} (h : s.tu.pool[k] = .inUse) :
    s.owner (s.slotAddress k) = s.tu.table[k].map (·.logical) := by
  unfold State.owner
  rw [State.kindAt_slotAddress, if_pos h]

theorem State.owner_idleSlot {s : State} {k : Fin 64} (h : s.tu.pool[k] ≠ .inUse) :
    s.owner (s.slotAddress k) = none := by
  unfold State.owner
  rw [State.kindAt_slotAddress, if_neg h]

/-- The slot that an entry names is in use (R19), so its owner is the entry's logical address. -/
theorem State.PoolAgrees.owner_of_entry {s : State} (hpool : s.PoolAgrees) {k : Fin 64} {e : RepairEntry}
    (he : s.tu.table[k] = some e) : s.owner (s.slotAddress k) = some e.logical := by
  obtain ⟨hinUse, -⟩ := hpool
  rw [State.owner_slotInUse ((hinUse k).mpr (by rw [he]; rfl)), he, Option.map_some]

/-! ### The two lookups agree -/

/-- The reverse lookup undoes the forward one, at a slot and at a home word. -/
theorem State.PoolAgrees.owner_forward {s : State} (hpool : s.PoolAgrees) {l : Nat} (hl : l < s.H) :
    s.owner (s.forward l) = some l := by
  cases hfound : s.mappedSlot l with
  | none => rw [State.forward_of_unmapped hfound, State.owner_home hl hfound]
  | some k =>
    obtain ⟨e, he, rfl⟩ := State.mappedSlot_some hfound
    rw [State.forward_of_mapped hfound, hpool.owner_of_entry he]

/-- Settles O11: an entry's logical address finds the entry's own slot, since no two entries share one; the rows of the
two lookups follow, and with them that the reverse undoes the forward. -/
theorem lookupsFollowTheTable : Obligations.LookupsFollowTheTable := by
  intro s hpool hexist
  obtain ⟨hentryExists, -⟩ := hexist
  refine ⟨fun k e he => ⟨?forwardEntry, hpool.owner_of_entry he, ?ownerRetired⟩, fun l hl hunnamed => ?home,
    fun k hidle => State.owner_idleSlot hidle, fun l hl => hpool.owner_forward hl⟩
  case forwardEntry => exact State.forward_of_mapped (hpool.mappedSlot_of_entry he)
  case ownerRetired => exact State.owner_retired (hentryExists k e he) (hpool.mappedSlot_of_entry he)
  case home =>
    have hfound : s.mappedSlot l = none := State.mappedSlot_none.mpr hunnamed
    exact ⟨State.forward_of_unmapped hfound, State.owner_home hl hfound⟩

end Sys2Proof.Machine

/-! ## The error log and the ALERT line (07): the set bits of the flags in the mask, and O31 -/

namespace Sys2Proof.Machine

/-- A vector other than zero has a set bit. -/
theorem ne_zero_iff_exists_getLsbD {w : Nat} (v : BitVec w) : v ≠ 0 ↔ ∃ j < w, v.getLsbD j = true := by
  constructor
  · intro hne
    by_contra! hclear
    exact hne (BitVec.eq_of_getLsbD_eq fun j hj => by simpa using hclear j hj)
  · rintro ⟨j, -, hset⟩ rfl
    simp at hset

/-- The mask's seven low members are those of the summary flags (R130, R185). -/
theorem flags_and_mask_ne_zero_iff (flags : BitVec 7) (mask : BitVec 8) :
    flags &&& mask.setWidth 7 ≠ 0 ↔ ∃ j < 7, flags.getLsbD j = true ∧ mask.getLsbD j = true := by
  rw [ne_zero_iff_exists_getLsbD]
  refine exists_congr fun j => and_congr_right fun hj => ?_
  rw [BitVec.getLsbD_and, BitVec.getLsbD_setWidth, decide_eq_true hj, Bool.true_and, Bool.and_eq_true]

/-- Settles O31: RESET_N, the flags in the mask and the held record are matched input by input. -/
theorem alertFollowsMask : Obligations.AlertFollowsMask := by
  intro s
  rw [State.alert, Bool.and_eq_true, Bool.or_eq_true]
  refine and_congr ?resetHigh (or_congr ?flag ?record)
  case resetHigh => exact iff_of_eq (Bool.not_eq_true' _)
  case flag => exact bne_iff_ne.trans (flags_and_mask_ne_zero_iff s.log.flags s.config.alertMask)
  case record => rw [maskLog, Bool.and_eq_true, decide_eq_true_iff, and_comm]

end Sys2Proof.Machine

/-! ## The moves of a step: the elementary changes that every command is a run of -/

namespace Sys2Proof.Machine

/-- What the completion of a tenure in a phase makes of the active context, where the context goes on with the same
target (R99, R101, R106, R107). -/
inductive ContextStep : MigrationPhase → MigrationContext → MigrationContext → Prop
  | copied (c : MigrationContext) (d : DataWord) :
    ContextStep .copyRead c { c with buffer := some d, phase := .copyWrite }
  | stored (c : MigrationContext) : ContextStep .copyWrite c { c with phase := .verify }
  | restarted (c : MigrationContext) (hrestarts : c.restarts < 3) :
    ContextStep .verify c { c with restarts := c.restarts + 1, dirty := false, phase := .copyRead }
  | pinned (c : MigrationContext) (hrestarts : ¬ c.restarts < 3) :
    ContextStep .verify c { c with pinned := true, dirty := false, phase := .copyRead }

/-- When the watch entry for p may be put in a state (R79, R84): an entry becomes DUE only with no space in the
Retirement Queue, QUEUED only with its owner held there, MIGRATING only as the active migration's. -/
def State.mayBecome (s : State) (p : Nat) : WatchState → Prop
  | .counting | .stuck => True
  | .due => s.owner p = none ∨ 4 ≤ s.retq.length
  | .queued => ∃ l, s.queuedForRetirement l = true ∧ (s.owner p = some l ∨ p = s.forward l)
  | .migrating => ∃ l, s.migrating l = true ∧ s.owner p = some l

/-- One elementary change that a command makes, with what is known of the state it is made in. `stores` is the one
address to which the command may store, and `resets` says whether it moves RESET_N. A command's whole effect is a run of moves (`exec_moves`), so an invariant is
kept by every step once every move keeps it. -/
inductive Move (resets : Bool) (stores : Option Nat) : State → State → Prop
  /-- An array word is stored (R1). -/
  | store {s : State} {p : Nat} (w : ArrayWord) (haddress : stores = some p) : Move resets stores s (s.store p w)
  /-- A free value has been read (log 4). -/
  | freeValue {s : State} (n : Nat) : Move resets stores s { s with freeCount := n }
  /-- RESET_N falls: what is under way ends (R58, R152, R168). -/
  | resetFall {s : State} (hreset : resets = true) :
    Move resets stores s { s with
      pins := { s.pins with resetLow := true }, seq := { s.seq with tenure := .none }, queue := [], offers := [],
      reports := [], mgmt := { s.mgmt with frame := .idle, diagClaim := none } }
  /-- RESET_N rises (R156). -/
  | resetRise {s : State} (a : Fin 8) (preserve : Bool) (hreset : resets = true) : Move resets stores s (s.riseWith a preserve)
  /-- The pins but RESET_N, and the Management Port but for its command state and DIAG claim; a frame runs only with SSN
  low, and is not begun while RESET_N is low (R168, R169). -/
  | port {s : State} (p : Pins) (m : Mgmt) (hreset : p.resetLow = s.pins.resetLow) (hbusy : m.busy = s.mgmt.busy)
      (hclaim : m.diagClaim = s.mgmt.diagClaim)
      (hpointer : m.pointer ≤ m.window.lastIndex ∨ m.pointer = s.mgmt.pointer ∧ m.window = s.mgmt.window)
      (hframe : m.frame = .idle ∨ p.ssnLow = s.pins.ssnLow ∧ m.frame = s.mgmt.frame ∨
        p.ssnLow = true ∧ (s.pins.resetLow = true → s.mgmt.frame ≠ .idle)) :
    Move resets stores s { s with pins := p, mgmt := m }
  /-- A record is offered, or taken from those offered; a CE report likewise (R77, R122). -/
  | handOff {s : State} (offers : List Offer) (reports : List CEReport) :
    Move resets stores s { s with offers := offers, reports := reports }
  /-- The log takes an offer (R122). -/
  | logTake {s : State} (o : Offer) : Move resets stores s { s with log := s.logAfter o }
  /-- Records leave the log at its head (R132, R133). -/
  | logRemove {s : State} (records : List LogRecord) (hrecords : records <:+ s.log.records) :
    Move resets stores s { s with log := { s.log with records := records } }
  /-- The summary is cleared (R134). -/
  | logClearSummary {s : State} : Move resets stores s { s with log := { s.log with flags := 0, firstUE := none, dropped := 0 } }
  /-- The log takes its reset values (R137). -/
  | logReset {s : State} : Move resets stores s { s with log := .reset }
  /-- A CONFIG word with no effect of its own is written (R175). -/
  | configWord {s : State} (threshold : Nat) (writeback : Bool) (mask : BitVec 8) (fairness : Nat)
      (hthreshold : threshold = s.config.ceThreshold ∨ threshold ≤ 15)
      (hfairness : fairness = s.config.migrationFairness ∨ 1 ≤ fairness ∧ fairness ≤ 15) :
    Move resets stores s { s with
      config := { s.config with
        ceThreshold := threshold, readWriteback := writeback, alertMask := mask, migrationFairness := fairness } }
  /-- SCRUB_INTERVAL is written, and the timer starts or stops (R63). -/
  | configInterval {s : State} (n : Nat) (timer : Option Nat) (hn : n ≤ 65535)
      (htimer : timer = if s.lifecycle.isFilling = true then none else startTimer n) :
    Move resets stores s { s with
      config := { s.config with scrubInterval := n }, scrub := { s.scrub with timer := timer } }
  /-- TIMEBASE_DIV is written, and the period count starts again (R61). -/
  | configDivisor {s : State} (n : Nat) (hn : 1 ≤ n ∧ n ≤ 255) :
    Move resets stores s { s with
      config := { s.config with timebaseDiv := n }, scrub := { s.scrub with periodCount := 0 } }
  /-- The timebase advances, and a running timer with it (R60, R62). -/
  | clock {s : State} (n : Nat) (us : BitVec 32) (timer : Option Nat) (hn : n ≤ s.config.timebaseDiv)
      (htimer : timer = s.scrub.timer ∨ timer = timerTick s.config.scrubInterval s.scrub.timer) :
    Move resets stores s { s with scrub := { s.scrub with periodCount := n, microseconds := us, timer := timer } }
  /-- The interval timer expires, and the credit rises below its cap (R64). -/
  | expiry {s : State} (e credit : Nat) (htimer : s.scrub.timer = some e)
      (hcredit : credit = s.scrub.credit ∨ credit ≤ 4) :
    Move resets stores s { s with scrub := { s.scrub with timer := some 0, credit := credit } }
  /-- SCRUB_SEEK sets the cursor (R72). -/
  | seek {s : State} (p : Nat) (hp : p < s.W) :
    Move resets stores s { s with scrub := { s.scrub with cursor := p, step := s.markCursorMoved } }
  /-- The running step has decoded its target (R69). -/
  | scrubDecoded {s : State} (st : ScrubStep) (hstep : s.scrub.step = some st) :
    Move resets stores s { s with scrub := { s.scrub with step := some { st with decoded := true } } }
  /-- The running step completes (R71). -/
  | scrubDone {s : State} (credit cursor : Nat) (passes : BitVec 16) (htenure : s.seq.tenure = .scrub)
      (hcredit : credit ≤ s.scrub.credit) (hcursor : cursor = s.scrub.cursor ∨ cursor < s.W) :
    Move resets stores s { s with
      scrub := { s.scrub with credit := credit, cursor := cursor, passes := passes, step := none },
      seq := { s.seq with tenure := .none } }
  /-- SOFT_RESET's effect on the scrubber and the streak (R59, R76). -/
  | scrubReset {s : State} :
    Move resets stores s { s with
      seq := { s.seq with streak := 0 },
      scrub := { s.scrub with
        timer := s.timerAfterSoftReset, credit := 0, cursor := 0, passes := 0, step := s.markCursorMoved } }
  /-- A grant to the host (R146). -/
  | grantHost {s : State} (hrunning : s.pins.resetLow = false) (hfree : s.seq.tenure = .none)
      (hlifecycle : s.lifecycle.isFilling = false ∧ s.lifecycle ≠ .hold) (hclaim : s.hostClaim = true) :
    Move resets stores s s.grantHost
  /-- A grant to the migration (R95). -/
  | grantMigration {s : State} (c : MigrationContext) (hrunning : s.pins.resetLow = false)
      (hfree : s.seq.tenure = .none) (hcontext : s.migration = some c) :
    Move resets stores s { s with seq := ⟨.migration c.phase (s.phaseAddress c) (c.buffer.getD 0) true, 0⟩ }
  /-- A grant to the scrubber (R68). -/
  | grantScrub {s : State} (hrunning : s.pins.resetLow = false) (hfree : s.seq.tenure = .none)
      (hclaim : s.scrubClaim = true) : Move resets stores s s.grantScrub
  /-- A grant to a PEEK or POKE (R56). -/
  | grantDiag {s : State} (claim : DiagClaim) (tenure : Tenure) (hrunning : s.pins.resetLow = false)
      (hfree : s.seq.tenure = .none) (hclaim : s.mgmt.diagClaim = some claim)
      (htenure : tenure = .peek claim.address ∨ ∃ w, tenure = .poke claim.address w) :
    Move resets stores s { s with
      seq := { s.seq with tenure := tenure }, mgmt := { s.mgmt with diagClaim := none } }
  /-- A grant to the fill (R158). -/
  | grantFill {s : State} (hrunning : s.pins.resetLow = false) (hfree : s.seq.tenure = .none)
      (hlifecycle : s.lifecycle.isFilling = true) (hclaim : s.fillCursor < s.W) : Move resets stores s s.grantFill
  /-- A request is taken to the tail (R141). -/
  | requestTaken {s : State} (raw : RawRequest) (htake : s.canTake = true) :
    Move resets stores s { s with
      queue := settlePlaces (s.queue ++ [newPlace (decodeRequest raw) ((decodeRequest raw).refusal s.H)]) }
  /-- The DONE head place leaves (R148). -/
  | headFreed {s : State} (p : Place) (rest : List Place) (hqueue : s.queue = p :: rest) (hdone : p.state = .done) :
    Move resets stores s { s with queue := rest }
  /-- The place in tenure has further results, no more than it has beats (R45). -/
  | results {s : State} (pl : Place) (rs : List BeatResult) (htenure : s.seq.tenure = .host)
      (hplace : s.placeInTenure = some pl)
      (hlength : rs.length ≤ pl.request.beatCount ∨ rs.length ≤ pl.request.beats.length) :
    Move resets stores s (s.setResults rs)
  /-- A beat of the place in tenure has written to the word of a migration past COPY_READ (R52, R105). -/
  | dirtied {s : State} (pl : Place) (i : Nat) (c : MigrationContext) (htenure : s.seq.tenure = .host)
      (hplace : s.placeInTenure = some pl) (hi : i < pl.request.beats.length) (hcontext : s.migration = some c)
      (hlogical : c.logical = pl.request.beatAddress i) :
    Move resets stores s { s with migration := some { c with dirty := true } }
  /-- The host tenure completes, with every beat answered (R145). -/
  | hostDone {s : State} (pl : Place) (htenure : s.seq.tenure = .host) (hplace : s.placeInTenure = some pl)
      (hresults : pl.results.length = pl.request.beatCount) :
    Move resets stores s { s with
      queue := settlePlaces (moveFirst .inTenure .done s.queue), seq := { s.seq with tenure := .none } }
  /-- OPEN (R160). -/
  | opened {s : State} (hlifecycle : s.lifecycle = .hold) : Move resets stores s { s with lifecycle := .opened }
  /-- A drain begins (R161, R162). -/
  | drainBegins {s : State} (target : DrainTarget) (hidle : s.mgmt.busy = false) (hlifecycle : s.lifecycle = .opened) :
    Move resets stores s { s with lifecycle := .draining target, mgmt := { s.mgmt with busy := true } }
  /-- A drain to HOLD ends (R163). -/
  | drainEnds {s : State} (hlifecycle : s.lifecycle = .draining .hold) (hqueue : s.queue = []) :
    Move resets stores s { s with lifecycle := .hold, mgmt := { s.mgmt with busy := false, lastResult := .ok } }
  /-- FILLING begins, from a drain or by FILL in HOLD, with no migration left (R157). -/
  | fillBegins {s : State} (back : FillReturn) (busy : Bool) (hmigration : s.migration = none)
      (hfrom : s.lifecycle = .draining (.filling back) ∧ s.queue = [] ∧ busy = s.mgmt.busy ∨
        s.lifecycle = .hold ∧ s.mgmt.busy = false ∧ busy = true) :
    Move resets stores s { s with
      lifecycle := .filling back, fillCursor := 0, scrub := { s.scrub with credit := 0, timer := none },
      mgmt := { s.mgmt with busy := busy } }
  /-- A fill word is complete (R158). -/
  | fillWordDone {s : State} (p : Nat) (htenure : s.seq.tenure = .fill p) :
    Move resets stores s { s with seq := { s.seq with tenure := .none }, fillCursor := s.fillCursor + 1 }
  /-- FILLING ends (R159). -/
  | fillEnds {s : State} (back : FillReturn) (htenure : s.seq.tenure = .none) (hlifecycle : s.lifecycle = .filling back) :
    Move resets stores s { s with
      lifecycle := back.lifecycle, scrub := { s.scrub with timer := startTimer s.config.scrubInterval },
      mgmt := { s.mgmt with busy := false } }
  /-- A PEEK or POKE is taken (R54). -/
  | diagTaken {s : State} (claim : DiagClaim) (hidle : s.mgmt.busy = false) (haddress : claim.address < s.W)
      (hlifecycle : s.lifecycle.isFilling = false) :
    Move resets stores s { s with mgmt := { s.mgmt with busy := true, diagClaim := some claim } }
  /-- A PEEK or POKE completes (R55, R56). -/
  | diagDone {s : State} (htenure : s.seq.tenure.isDiag = true) :
    Move resets stores s { s with seq := { s.seq with tenure := .none }, mgmt := { s.mgmt with busy := false } }
  /-- A migration tenure completes with nothing further for its context (R38). -/
  | migrationTenureDone {s : State} (phase : MigrationPhase) (p : Nat) (d : DataWord) (live : Bool)
      (htenure : s.seq.tenure = .migration phase p d live) : Move resets stores s s.freePort
  /-- A migration tenure completes, and its context goes on (R99, R101, R106, R107). -/
  | contextStep {s : State} (c c' : MigrationContext) (phase : MigrationPhase) (p : Nat) (d : DataWord)
      (hcontext : s.migration = some c) (htenure : s.seq.tenure = .migration phase p d true)
      (hstep : ContextStep phase c c') : Move resets stores s (s.freePort.setContext c')
  /-- A VERIFY has failed: the target is BAD, and the copy goes on to another slot (R104). -/
  | targetReplaced {s : State} (c : MigrationContext) (p : Nat) (d : DataWord) (k : Fin 64)
      (hcontext : s.migration = some c) (htenure : s.seq.tenure = .migration .verify p d true)
      (hfree : (s.setSlot c.target .bad).tu.pool[k] = .free) :
    Move resets stores s (((s.freePort.setSlot c.target .bad).setSlot k .reserved).setContext
      { c with target := k, dirty := false, phase := if c.dirty then .copyRead else .copyWrite })
  /-- The active migration ends without install, its target released or BAD, its source entry no longer MIGRATING (R87,
  R98, R100, R103, R109, R110). -/
  | migrationEnds {s : State} (c : MigrationContext) (st : SlotState) (hcontext : s.migration = some c)
      (hstate : st = .free ∨ st = .bad) (hwatch : ∀ e ∈ s.watch, e.physical = c.source → e.state ≠ .migrating) :
    Move resets stores s (s.endContext.setSlot c.target st)
  /-- The active migration ends with install: its word has an entry, where it had none, and its source is no longer
  watched (R22, R108). -/
  | installed {s : State} (c : MigrationContext) (hcontext : s.migration = some c)
      (hunmapped : s.mappedSlot c.logical = none) (hwatch : ∀ e ∈ s.watch, e.physical ≠ c.source) :
    Move resets stores s ((s.setEntry c.target (some ⟨c.logical, .migrated, 1⟩)).setSlot c.target .inUse).endContext
  /-- The active migration ends with install: its word's entry moves, and the entry's old slot is BAD (R22, R108). -/
  | installedAgain {s : State} (c : MigrationContext) (old : Fin 64) (moves : Nat) (hcontext : s.migration = some c)
      (hmapped : s.mappedSlot c.logical = some old) (hmoves : moves ≤ 15)
      (hwatch : ∀ e ∈ s.watch, e.physical ≠ c.source) :
    Move resets stores s ((((s.setEntry old none).setEntry c.target (some ⟨c.logical, .migrated, moves⟩)).setSlot c.target
      .inUse).setSlot old .bad).endContext
  /-- MAP's change, its address not watched (R30, R89). -/
  | mapped {s : State} (l : Nat) (k : Fin 64) (hl : l < s.H) (hunmapped : s.mappedSlot l = none)
      (hfree : s.tu.pool[k] = .free) (hmigrating : s.migrating l = false) (hqueued : s.queuedForRetirement l = false)
      (hwatch : ∀ e ∈ s.watch, e.physical ≠ l) :
    Move resets stores s ((s.setEntry k (some ⟨l, .loaded, 0⟩)).setSlot k .inUse)
  /-- UNMAP's change, its slot not watched (R31, R89). -/
  | unmapped {s : State} (l : Nat) (k : Fin 64) (hmapped : s.mappedSlot l = some k) (hmigrating : s.migrating l = false)
      (hwatch : ∀ e ∈ s.watch, e.physical ≠ s.slotAddress k) :
    Move resets stores s ((s.setEntry k none).setSlot k .free)
  /-- SLOT_FREE's and SLOT_BAD's change (R32). -/
  | slotMoved {s : State} (k : Fin 64) (st : SlotState)
      (hstates : s.tu.pool[k] = .bad ∧ st = .free ∨ s.tu.pool[k] = .free ∧ st = .bad) : Move resets stores s (s.setSlot k st)
  /-- Watch entries go (R81, R89, R91). -/
  | watchRemoved {s : State} (w : List WatchEntry) (hw : w.Sublist s.watch) : Move resets stores s { s with watch := w }
  /-- A word with an owner is watched, last in age order, after an eviction from a full list (R81). -/
  | watchInserted {s : State} (w : List WatchEntry) (p : Nat) (hw : w.Sublist s.watch)
      (hlength : w.length < 8 ∨ w.length < s.watch.length) (hnew : ∀ e ∈ w, e.physical ≠ p)
      (howner : (s.owner p).isSome = true) : Move resets stores s { s with watch := w ++ [⟨p, 1, .counting⟩] }
  /-- A report is counted (R80). -/
  | watchCounted {s : State} (p : Nat) :
    Move resets stores s { s with
      watch := s.watch.map fun e => if e.physical = p then { e with count := min (e.count + 1) 15 } else e }
  /-- A watch entry changes its state (R79). -/
  | watchState {s : State} (p : Nat) (st : WatchState) (hst : s.mayBecome p st) : Move resets stores s (s.setWatch p st)
  /-- All STUCK entries become COUNTING (R88). -/
  | watchReleased {s : State} :
    Move resets stores s { s with
      watch := s.watch.map fun e => if e.state = .stuck then { e with state := .counting } else e }
  /-- A retirement is admitted at the tail (R84, R90). -/
  | retirementQueued {s : State} (l : Nat) (origin : RetireOrigin) (hlength : s.retq.length < 4)
      (hmigrating : s.migrating l = false) (hqueued : s.queuedForRetirement l = false)
      (hl : l < s.H ∨ ∃ p, s.owner p = some l) : Move resets stores s { s with retq := s.retq ++ [⟨l, origin⟩] }
  /-- The Retirement Queue is emptied, with nothing watched (R93). -/
  | retirementsCleared {s : State} (hwatch : s.watch = []) : Move resets stores s { s with retq := [] }
  /-- The tenure of a context that is no more is orphaned (R38). -/
  | orphaned {s : State} (hmigration : s.migration = none) : Move resets stores s s.endContext

/-- The command is an edge of RESET_N. -/
def movesReset : Instr → Bool
  | .resetNLow _ | .resetNRise _ _ => true
  | _ => false

/-- The change at a migration start, before the DUE entries are offered (R97, R98): unlike a move, it leaves the
Retirement Queue with a space that DUE entries wait for. -/
inductive StartMove : State → State → Prop
  | withSlot {s : State} (r : RetireRequest) (rest : List RetireRequest) (k : Fin 64) (hretq : s.retq = r :: rest)
      (hmigration : s.migration = none) (hlifecycle : s.lifecycle = .opened ∨ s.lifecycle = .hold)
      (hfree : s.tu.pool[k] = .free) :
    StartMove s (State.setWatch { s.setSlot k .reserved with
      retq := rest,
      migration := some ⟨r.logical, s.forward r.logical, k, .copyRead, none, false, 0, false, r.origin⟩ }
      (s.forward r.logical) .migrating)
  | withoutSlot {s : State} (r : RetireRequest) (rest : List RetireRequest) (hretq : s.retq = r :: rest)
      (hmigration : s.migration = none) :
    StartMove s (State.setWatch { s.offer (.slotsExhausted r.logical) with retq := rest }
      (s.forward r.logical) .stuck)

/-- A run of moves. -/
abbrev Moves (resets : Bool) (stores : Option Nat) : State → State → Prop := Relation.ReflTransGen (Move resets stores)

/-- Where a result answers next, the answer is reached by moves. -/
def Leads (resets : Bool) (stores : Option Nat) (s : State) (r : Result) : Prop := ∀ t, r = .next t → Moves resets stores s t

end Sys2Proof.Machine

/-! ## Every command is a run of moves -/

namespace Sys2Proof.Machine

open Relation

variable {resets : Bool} {stores : Option Nat} {s t : State}

/-! ### The shapes of the rows -/

theorem leads_next (h : Moves resets stores s t) : Leads resets stores s (.next t) := by
  rintro t' ⟨⟩
  exact h

theorem leads_whileRunning (h : s.pins.resetLow = false → Moves resets stores s t) : Leads resets stores s (whileRunning s t) := by
  refine leads_next ?_
  split
  · exact .refl
  · next hreset => exact h (by simpa using hreset)

theorem leads_atArray {p : Nat} {r : Result} (h : p < s.W → Leads resets stores s r) : Leads resets stores s (atArray s p r) :=
  fun t ht => let ⟨hp, hr⟩ := atArray_eq_next ht; h hp t hr

/-- A fold of runs of moves is a run of moves. -/
theorem moves_foldl {α : Type} {f : State → α → State} (h : ∀ s a, Moves resets stores s (f s a)) (l : List α) (s : State) :
    Moves resets stores s (l.foldl f s) := by
  induction l generalizing s with
  | nil => exact .refl
  | cons a l ih => exact (h s a).trans (ih (f s a))

/-! ### The port -/

/-- A change of the port's own state that concerns neither the pointer, the frame, the command state nor the DIAG
claim. -/
theorem move_mgmt (m : Mgmt) (hbusy : m.busy = s.mgmt.busy) (hclaim : m.diagClaim = s.mgmt.diagClaim)
    (hpointer : m.pointer = s.mgmt.pointer) (hwindow : m.window = s.mgmt.window) (hframe : m.frame = s.mgmt.frame) :
    Move resets stores s { s with mgmt := m } :=
  .port s.pins m rfl hbusy hclaim (.inr ⟨hpointer, hwindow⟩) (.inr (.inl ⟨rfl, hframe⟩))

theorem move_answer (r : CommandResult) : Move resets stores s (s.answer r) := move_mgmt _ rfl rfl rfl rfl rfl

theorem move_refuseWrite : Move resets stores s s.refuseWrite := move_mgmt _ rfl rfl rfl rfl rfl

theorem move_offer (o : Offer) : Move resets stores s (s.offer o) := .handOff _ _

theorem move_report (src : ReportSource) (p : Nat) : Move resets stores s (s.report src p) := .handOff _ _

theorem move_frameEnded : Move resets stores s s.frameEnded :=
  .port _ _ rfl rfl rfl (.inr ⟨rfl, rfl⟩) (.inl rfl)

theorem moves_openFrame : Moves resets stores s s.openFrame := by
  unfold State.openFrame
  split
  · exact .refl
  · refine .single (.port _ _ rfl rfl rfl (.inr ⟨rfl, rfl⟩) ?_)
    cases hreset : s.pins.resetLow with
    | true => exact .inl rfl
    | false => exact .inr (.inr ⟨rfl, nofun⟩)

/-- What the rise of SSN at a complete frame does: the frame's act if it has no kind yet, else no more than the frame's
end. -/
theorem State.atFrameEnd_cases (s : State) (act : State → State) :
    s.atFrameEnd act = s ∨ s.atFrameEnd act = s.frameEnded ∨ s.atFrameEnd act = act s.frameEnded := by
  simp only [State.atFrameEnd, State.openFrame_closeFrame]
  split <;> simp

theorem moves_atFrameEnd {act : State → State} (hact : ∀ u : State, Moves resets stores u (act u)) :
    Moves resets stores s (s.atFrameEnd act) := by
  obtain h | h | h := s.atFrameEnd_cases act
  all_goals rw [h]
  · exact .single move_frameEnded
  · exact .head move_frameEnded (hact _)

/-- What a complete command does: nothing more than the frame's end, LOST, or its owner's act on the state of the take. -/
theorem moves_takeCommand (code : BitVec 8) {owner : State → State}
    (howner : ∀ u : State, u.mgmt.busy = false → Moves resets stores u (owner u)) :
    Moves resets stores s (s.takeCommand code owner) := by
  refine moves_atFrameEnd fun u => ?_
  dsimp only
  split
  · exact .single (move_mgmt _ rfl rfl rfl rfl rfl)
  · next hbusy =>
    refine .head (move_mgmt { u.mgmt with lastCode := code, lost := false, accessError := false }
      rfl rfl rfl rfl rfl) (howner _ ?_)
    simpa using hbusy

/-! ### Watch List and Retirement Queue -/

theorem State.setWatch_setWatch (s : State) (p : Nat) (a b : WatchState) :
    (s.setWatch p a).setWatch p b = s.setWatch p b := by
  simp only [State.setWatch, List.map_map]
  congr 2
  funext e
  by_cases he : e.physical = p <;> simp [he]

/-- The admission of an entry's owner, and the entry's new state. -/
theorem moves_admit {l p : Nat} (howner : s.owner p = some l) (hmigrating : s.migrating l = false)
    (hqueued : s.queuedForRetirement l = false) (hlength : s.retq.length < Config.retirePlaces) :
    Moves resets stores s { s.setWatch p .queued with retq := s.retq ++ [⟨l, .watch⟩] } := by
  refine .head (.retirementQueued l .watch hlength hmigrating hqueued (.inr ⟨p, howner⟩)) (.single ?_)
  exact .watchState p .queued ⟨l, by simp [State.queuedForRetirement], .inl howner⟩

theorem moves_offerDue (p : Nat) : Moves resets stores s (s.offerDue p) := by
  unfold State.offerDue
  split
  · exact .refl
  · next l howner =>
    split
    · next hmigrating => exact .single (.watchState p .migrating ⟨l, hmigrating, howner⟩)
    · next hmigrating =>
      split
      · next hqueued => exact .single (.watchState p .queued ⟨l, hqueued, .inl howner⟩)
      · next hqueued =>
        split
        · next hlength => exact moves_admit howner (by simpa using hmigrating) (by simpa using hqueued) hlength
        · exact .refl

/-- An entry that becomes DUE and is offered at once goes straight to the state that the offer gives it. -/
theorem moves_dueOfferDue (p : Nat) : Moves resets stores s ((s.setWatch p .due).offerDue p) := by
  unfold State.offerDue
  split
  · next howner => exact .single (.watchState p .due (.inl howner))
  · next l howner =>
    rw [State.setWatch_setWatch, State.setWatch_setWatch]
    split
    · next hmigrating => exact .single (.watchState p .migrating ⟨l, hmigrating, howner⟩)
    · next hmigrating =>
      split
      · next hqueued => exact .single (.watchState p .queued ⟨l, hqueued, .inl howner⟩)
      · next hqueued =>
        split
        · next hlength =>
          exact moves_admit (s := s) howner (Bool.eq_false_of_not_eq_true hmigrating)
            (Bool.eq_false_of_not_eq_true hqueued) hlength
        · next hlength => exact .single (.watchState p .due (.inr (by simpa [Config.retirePlaces] using hlength)))

theorem moves_testThreshold (p : Nat) : Moves resets stores s (s.testThreshold p) := by
  unfold State.testThreshold
  split
  · exact .refl
  · split
    · exact moves_dueOfferDue p
    · exact .refl

theorem moves_offerDueEntries : Moves resets stores s s.offerDueEntries := by
  refine moves_foldl (fun t e => ?_) _ s
  split
  · exact moves_offerDue _
  · exact .refl

theorem moves_releaseStuck : Moves resets stores s s.releaseStuck :=
  .head .watchReleased (moves_foldl (fun _ p => moves_testThreshold p) _ _)

/-- One entry of the search for the one to evict (R81): the choice so far against entry e. -/
def evictBetter (best : Option WatchEntry) (e : WatchEntry) : Option WatchEntry :=
  if e.state ≠ .counting then best
  else
    match best with
    | none => some e
    | some b => if e.count < b.count then some e else some b

theorem evictee_eq_foldl (entries : List WatchEntry) : evictee entries = entries.foldl evictBetter none := rfl

theorem evictBetter_cases (best : Option WatchEntry) (e : WatchEntry) :
    evictBetter best e = best ∨ evictBetter best e = some e := by
  unfold evictBetter
  split
  · exact .inl rfl
  · split
    · exact .inr rfl
    · split
      · exact .inr rfl
      · exact .inl rfl

theorem foldl_evictBetter_mem (l : List WatchEntry) (best : Option WatchEntry) :
    l.foldl evictBetter best = best ∨ ∃ v ∈ l, l.foldl evictBetter best = some v := by
  induction l generalizing best with
  | nil => exact .inl rfl
  | cons e l ih =>
    rw [List.foldl_cons]
    obtain h | ⟨v, hv, h⟩ := ih (evictBetter best e)
    · obtain he | he := evictBetter_cases best e
      · exact .inl (h.trans he)
      · exact .inr ⟨e, List.mem_cons_self, h.trans he⟩
    · exact .inr ⟨v, List.mem_cons_of_mem e hv, h⟩

/-- An evicted entry is one of the list. -/
theorem evictee_mem {entries : List WatchEntry} {v : WatchEntry} (h : evictee entries = some v) : v ∈ entries := by
  rw [evictee_eq_foldl] at h
  obtain hnone | ⟨v', hv', hsome⟩ := foldl_evictBetter_mem entries none
  · exact absurd (h.symm.trans hnone) nofun
  · cases h.symm.trans hsome
    exact hv'

theorem moves_takeReport (p : Nat) : Moves resets stores s (s.takeReport p) := by
  unfold State.takeReport
  split
  · exact .refl
  · next l howner =>
    have hisSome : (s.owner p).isSome = true := by rw [howner]; rfl
    split
    · exact .head (.watchCounted p) (moves_testThreshold p)
    · next hentry =>
      have hnew : ∀ e ∈ s.watch, e.physical ≠ p := by simpa [State.watchEntry] using hentry
      unfold State.insertWatch
      split
      · next hlength =>
        exact .head (.watchInserted s.watch p (.refl _) (.inl hlength) hnew hisSome) (moves_testThreshold p)
      · split
        · exact .refl
        · next v hv =>
          refine .head (.watchInserted _ p List.filter_sublist (.inr ?_)
            (fun e he => hnew e (List.mem_of_mem_filter he)) hisSome) (moves_testThreshold p)
          exact List.length_filter_lt_length_iff_exists.mpr ⟨v, evictee_mem hv, by simp⟩

/-! ### The end of a migration -/

theorem moves_dropWatch (p : Nat) : Moves resets stores s (s.dropWatch p) := .single (.watchRemoved _ List.filter_sublist)

theorem not_watched_dropWatch (s : State) (p : Nat) : ∀ e ∈ (s.dropWatch p).watch, e.physical ≠ p := by
  intro e he
  simpa using (List.mem_filter.mp he).2

theorem state_of_mem_setWatch {p : Nat} {st : WatchState} {e : WatchEntry} (he : e ∈ (s.setWatch p st).watch)
    (hp : e.physical = p) : e.state = st := by
  obtain ⟨e', -, rfl⟩ := List.mem_map.mp he
  by_cases he' : e'.physical = p
  · rw [if_pos he']
  · rw [if_neg he'] at hp
    exact absurd hp he'

/-- The end of a context and the release of its target, with the notice. -/
theorem moves_endAndFree {c : MigrationContext} (hcontext : s.migration = some c)
    (hwatch : ∀ e ∈ s.watch, e.physical = c.source → e.state ≠ .migrating) :
    Moves resets stores s (s.endContext.freeSlot c.target) :=
  .head (.migrationEnds c .free hcontext (.inl rfl) hwatch) moves_releaseStuck

theorem moves_abortMigration (cause : AbandonCause) : Moves resets stores s (s.abortMigration cause) := by
  unfold State.abortMigration
  split
  · exact .refl
  · next c hcontext =>
    refine .head (move_offer _) (.head (.watchState c.source .counting trivial) (moves_endAndFree hcontext ?_))
    exact fun e he hp => by simp [state_of_mem_setWatch he hp]

/-- FILLING begins: an active migration is aborted first, its target's notice comes last (R110, R157). -/
theorem moves_beginFilling (back : FillReturn) (busy : Bool)
    (hfrom : s.lifecycle = .draining (.filling back) ∧ s.queue = [] ∧ busy = s.mgmt.busy ∨
      s.lifecycle = .hold ∧ s.mgmt.busy = false ∧ busy = true) :
    Moves resets stores s (({ s with mgmt := { s.mgmt with busy := busy } } : State).beginFilling back) := by
  unfold State.beginFilling State.abortMigration
  split
  · next hcontext => exact .single (.fillBegins back busy hcontext hfrom)
  · next c hcontext =>
    refine .head (move_offer (.migrationAbandoned c.logical .fill c.target)) ?_
    refine .head (.watchState c.source .counting trivial) ?_
    refine .head (.migrationEnds c .free hcontext (.inl rfl) fun e he hp => by simp [state_of_mem_setWatch he hp]) ?_
    exact .head (.fillBegins back busy rfl hfrom) moves_releaseStuck

theorem moves_endDrain (hqueue : s.queue = []) : Moves resets stores s s.endDrain := by
  obtain ⟨-, h⟩ | ⟨hlifecycle, h⟩ | ⟨back, hlifecycle, h⟩ := s.endDrain_cases
  all_goals rw [h]
  · exact .single (.drainEnds hlifecycle hqueue)
  · exact moves_beginFilling back s.mgmt.busy (.inl ⟨hlifecycle, hqueue, rfl⟩)

end Sys2Proof.Machine

/-! ## The rows as runs of moves -/

namespace Sys2Proof.Machine

open Relation

variable {resets : Bool} {stores : Option Nat} {s t : State}

/-! ### Resets -/

theorem moves_cutArray (midWrite : Bool) : Moves resets (s.cutWord midWrite) s (s.cutArray midWrite) := by
  unfold State.cutArray
  split
  · exact .refl
  · next p hp => exact .head (.store _ hp) (.single (.freeValue _))

theorem moves_driveLow (midWrite : Bool) : Moves true (s.cutWord midWrite) s (s.driveLow midWrite) :=
  .tail (moves_cutArray midWrite) (.resetFall rfl)

theorem leads_resetNLow (midWrite : Bool) : Leads true (s.cutWord midWrite) s (execResetNLow midWrite s) := by
  refine leads_next ?_
  split
  · exact .refl
  · exact moves_driveLow midWrite

theorem leads_resetNRise (a : Fin 8) (preserve : Bool) : Leads true (s.cutWord false) s (execResetNRise a preserve s) := by
  refine leads_next (.tail ?_ (.resetRise a preserve rfl))
  split
  · exact .refl
  · exact moves_driveLow false

/-! ### The host channel -/

theorem moves_takeRequest (raw : RawRequest) (htake : s.canTake = true) : Moves resets stores s (s.takeRequest raw) := by
  have hpins : Move resets stores s { s with pins := { s.pins with presented := none } } :=
    .port _ s.mgmt rfl rfl rfl (.inr ⟨rfl, rfl⟩) (.inr (.inl ⟨rfl, rfl⟩))
  refine .head hpins (.head (.requestTaken raw htake) ?_)
  unfold State.takeRequest
  dsimp only
  split
  · exact .refl
  · exact .single (move_offer _)

theorem canTake_of_requestTake (h : s.requestTake = true) : s.canTake = true := by
  unfold State.requestTake at h
  exact (Bool.and_eq_true _ _ ▸ h).2

theorem leads_requestTaken (header : BitVec 32) (b0 b1 b2 b3 : BitVec 72) :
    Leads resets stores s (execRequestTaken header b0 b1 b2 b3 s) := by
  unfold execRequestTaken
  split
  · next htake => exact leads_next (moves_takeRequest _ (canTake_of_requestTake htake))
  · exact leads_next (.single (.port _ s.mgmt rfl rfl rfl (.inr ⟨rfl, rfl⟩) (.inr (.inl ⟨rfl, rfl⟩))))

theorem leads_heldRequestTaken : Leads resets stores s (execHeldRequestTaken s) := by
  unfold execHeldRequestTaken
  split
  · refine leads_next ?_
    split
    · next htake => exact moves_takeRequest _ (canTake_of_requestTake htake)
    · exact .refl
  · exact leads_next .refl

theorem leads_responseTaken : Leads resets stores s (execResponseTaken s) := by
  unfold execResponseTaken
  split
  · exact leads_next .refl
  · next p rest hqueue =>
    split
    · next hdone =>
      refine leads_whileRunning fun _ => .head (.headFreed p rest hqueue hdone) ?_
      split
      · next hempty => exact moves_endDrain (List.isEmpty_iff.mp hempty)
      · exact .refl
    · exact leads_next .refl

/-! ### The arbiter -/

theorem firstClaim_host {eligible : Bool} (h : s.firstClaim eligible = some .host) :
    eligible = true ∧ s.hostClaim = true := by
  unfold State.firstClaim at h
  split_ifs at h <;> simp_all

theorem firstClaim_scrub {eligible : Bool} (h : s.firstClaim eligible = some .scrub) : s.scrubClaim = true := by
  unfold State.firstClaim at h
  split_ifs at h <;> simp_all

theorem firstClaim_ne_fill (eligible : Bool) : s.firstClaim eligible ≠ some .fill := by
  unfold State.firstClaim
  split_ifs <;> simp

theorem moves_grantMigration (hrunning : s.pins.resetLow = false) (hfree : s.seq.tenure = .none) :
    Moves resets stores s s.grantMigration := by
  unfold State.grantMigration
  split
  · next c hcontext => exact .single (.grantMigration c hrunning hfree hcontext)
  · exact .refl

theorem moves_grantDiag (hrunning : s.pins.resetLow = false) (hfree : s.seq.tenure = .none) :
    Moves resets stores s s.grantDiag := by
  unfold State.grantDiag
  split
  · next p hclaim => exact .single (.grantDiag (.peek p) _ hrunning hfree hclaim (.inl rfl))
  · next p hclaim => exact .single (.grantDiag (.poke p) _ hrunning hfree hclaim (.inr ⟨_, rfl⟩))
  · exact .refl

/-- The claim that a decision grants is one of the list's, or FILL's alone in FILLING. -/
theorem grantChoice_cases {c : Claimant} (h : s.grantChoice = some c) :
    (c = .fill ∧ s.lifecycle.isFilling = true ∧ s.fillCursor < s.W) ∨
    (s.lifecycle.isFilling = false ∧ ∃ eligible, s.firstClaim eligible = some c ∧
      (eligible = true → s.lifecycle ≠ .hold)) := by
  unfold State.grantChoice at h
  split at h
  · next hl =>
    split at h
    · next hclaim =>
      cases h
      exact .inl ⟨rfl, by rw [hl]; rfl, by simpa [State.fillClaim] using hclaim⟩
    · cases h
  · next hl => exact .inr ⟨by rw [hl]; rfl, false, h, nofun⟩
  · next hl => exact .inr ⟨by rw [hl]; rfl, true, h, fun _ => by rw [hl]; nofun⟩
  · next hl => exact .inr ⟨by rw [hl]; rfl, true, h, fun _ => by rw [hl]; nofun⟩

theorem leads_grantDecision : Leads resets stores s (execGrantDecision s) := by
  unfold execGrantDecision
  split
  · next hfree =>
    split
    · next c hchoice =>
      refine leads_whileRunning fun hrunning => ?_
      obtain ⟨rfl, hfilling, hclaim⟩ | ⟨hnot, eligible, hfirst, hhold⟩ := grantChoice_cases hchoice
      · exact .single (.grantFill hrunning hfree hfilling hclaim)
      · cases c with
        | host =>
          obtain ⟨heligible, hclaim⟩ := firstClaim_host hfirst
          exact .single (.grantHost hrunning hfree ⟨hnot, hhold heligible⟩ hclaim)
        | migration => exact moves_grantMigration hrunning hfree
        | scrub => exact .single (.grantScrub hrunning hfree (firstClaim_scrub hfirst))
        | diag => exact moves_grantDiag hrunning hfree
        | fill => exact absurd hfirst (firstClaim_ne_fill eligible)
    · exact leads_next .refl
  · exact leads_next .refl

/-! ### Host tenures -/

/-- A place in a running host tenure. -/
theorem hostTenurePlace_some {pl : Place} :
    s.hostTenurePlace = some pl ↔ s.seq.tenure = .host ∧ s.placeInTenure = some pl := by
  unfold State.hostTenurePlace
  split
  · next h => simp [h]
  all_goals next h => simp [h]

theorem moves_readBeatAt {pl : Place} {p : Nat} (hstores : stores = some p) (htenure : s.seq.tenure = .host)
    (hplace : s.placeInTenure = some pl) (hlength : pl.results.length < pl.request.beatCount) :
    Moves resets stores s (s.readBeatAt p pl.results) := by
  have hresult (r : BeatResult) (u : State) (hu : u.seq = s.seq) (hq : u.queue = s.queue) :
      Move resets stores u (u.setResults (pl.results ++ [r])) :=
    .results pl _ (by rw [hu, htenure]) (by rw [← hplace, State.placeInTenure, hq]; rfl) (.inl (by simpa using hlength))
  unfold State.readBeatAt
  dsimp only
  split
  · exact .single (hresult _ s rfl rfl)
  · refine .tail (.tail ?_ (move_report _ _)) (move_offer _)
    split
    · exact .head (.store _ hstores) (.single (hresult _ _ rfl rfl))
    · exact .single (hresult _ s rfl rfl)
  · exact .tail (.single (hresult _ s rfl rfl)) (move_offer _)

theorem leads_hostReadBeat : Leads resets (storeAddress s .hostReadBeat) s (execHostReadBeat s) := by
  unfold execHostReadBeat
  split
  · exact leads_next .refl
  · next pl hpl =>
    obtain ⟨htenure, hplace⟩ := hostTenurePlace_some.mp hpl
    dsimp only
    split
    · next hread =>
      refine leads_atArray fun _ => leads_whileRunning fun _ => moves_readBeatAt ?_ htenure hplace hread.2
      simp [storeAddress, hpl]
    · exact leads_next .refl

theorem moves_markDirty {pl : Place} {i : Nat} (htenure : s.seq.tenure = .host) (hplace : s.placeInTenure = some pl)
    (hi : i < pl.request.beats.length) : Moves resets stores s (s.markDirty (pl.request.beatAddress i)) := by
  unfold State.markDirty
  split
  · exact .refl
  · next c hcontext =>
    split
    · next hmark =>
      simp only [Bool.and_eq_true, decide_eq_true_eq] at hmark
      exact .single (.dirtied pl i c htenure hplace hi hcontext hmark.1)
    · exact .refl

/-- A written beat: the word stored, the dirty mark, the beat's result after those of the beats before it. -/
theorem moves_performWrite {pl : Place} {p i : Nat} (w : ArrayWord) (rs : List BeatResult) (st : BeatStatus)
    (hstores : stores = some p) (htenure : s.seq.tenure = .host) (hplace : s.placeInTenure = some pl)
    (hi : i < pl.request.beats.length) (hrs : rs.length = i) :
    Moves resets stores s (s.performWrite (pl.request.beatAddress i) p w rs st) := by
  refine .head (.store w hstores) (.tail (moves_markDirty (s := s.store p w) htenure hplace hi) ?_)
  refine .results pl _ (by simpa using htenure) (by simpa [State.placeInTenure] using hplace) (.inr ?_)
  simp only [List.length_append, List.length_singleton]
  omega

theorem leads_hostWriteBeat : Leads resets (storeAddress s .hostWriteBeat) s (execHostWriteBeat s) := by
  unfold execHostWriteBeat
  split
  · exact leads_next .refl
  · next pl hpl =>
    obtain ⟨htenure, hplace⟩ := hostTenurePlace_some.mp hpl
    dsimp only
    split
    · exact leads_next .refl
    · next b hb =>
      split
      · refine leads_atArray fun _ => leads_whileRunning fun _ =>
          moves_performWrite _ _ _ ?_ htenure hplace (List.getElem?_eq_some_iff.mp hb).1 rfl
        simp [storeAddress, hpl]
      · exact leads_next .refl

theorem leads_hostMergeBeat : Leads resets (storeAddress s .hostMergeBeat) s (execHostMergeBeat s) := by
  unfold execHostMergeBeat
  split
  · exact leads_next .refl
  · next pl hpl =>
    obtain ⟨htenure, hplace⟩ := hostTenurePlace_some.mp hpl
    dsimp only
    split
    · exact leads_next .refl
    · next b hb =>
      split
      · refine leads_atArray fun _ => leads_whileRunning fun _ => ?_
        have haddress : storeAddress s .hostMergeBeat = some (s.forward (pl.request.beatAddress pl.afterSkips.length)) := by
          simp [storeAddress, hpl]
        have hwrite (w : ArrayWord) (st : BeatStatus) :=
          moves_performWrite (resets := resets) w pl.afterSkips st haddress htenure hplace (List.getElem?_eq_some_iff.mp hb).1 rfl
        unfold State.mergeBeatAt
        dsimp only
        split
        · exact hwrite _ _
        · exact .tail (.tail (hwrite _ _) (move_report _ _)) (move_offer _)
        · exact .tail (hwrite _ _) (move_offer _)
      · exact leads_next .refl

/-- The place in tenure is IN_TENURE. -/
theorem placeInTenure_state {pl : Place} (h : s.placeInTenure = some pl) : pl.state = .inTenure := by
  simpa using List.find?_some h

/-- The place in tenure, once its results have been replaced. -/
theorem placeInTenure_setResults {pl : Place} (h : s.placeInTenure = some pl) (rs : List BeatResult) :
    (s.setResults rs).placeInTenure = some { pl with results := rs } := by
  have hkeep : (fun p : Place => decide (p.state = .inTenure)) ∘
      (fun p => if p.state = .inTenure then { p with results := rs } else p) =
        fun p => decide (p.state = .inTenure) := by
    funext p
    by_cases hp : p.state = .inTenure <;> simp [hp]
  unfold State.placeInTenure at h ⊢
  rw [State.setResults_queue, List.find?_map, hkeep, h, Option.map_some, if_pos (placeInTenure_state h)]

theorem leads_hostTenureCompletion : Leads resets stores s (execHostTenureCompletion s) := by
  unfold execHostTenureCompletion
  split
  · exact leads_next .refl
  · next pl hpl =>
    obtain ⟨htenure, hplace⟩ := hostTenurePlace_some.mp hpl
    split
    · next hlength =>
      refine leads_whileRunning fun _ => .head (.results pl _ htenure hplace (.inl hlength.le)) (.single ?_)
      exact .hostDone _ htenure (placeInTenure_setResults hplace _) hlength
    · exact leads_next .refl

/-! ### Hand-offs -/

theorem leads_recordOffer (src : OfferSource) : Leads resets stores s (execRecordOffer src s) := by
  unfold execRecordOffer
  split
  · exact leads_next .refl
  · next o _ => exact leads_whileRunning fun _ => .head (.logTake o) (.single (.handOff _ _))

theorem leads_ceReport (src : ReportSource) : Leads resets stores s (execCeReport src s) := by
  unfold execCeReport
  split
  · exact leads_next .refl
  · exact leads_whileRunning fun _ => .head (.handOff _ _) (moves_takeReport _)

/-! ### Time and scrubbing -/

theorem leads_referenceClockPeriod : Leads resets stores s (execReferenceClockPeriod s) :=
  leads_whileRunning fun _ => .single (.clock _ s.scrub.microseconds s.scrub.timer (Nat.min_le_right _ _) (.inl rfl))

theorem leads_microsecondTick : Leads resets stores s (execMicrosecondTick s) := by
  unfold execMicrosecondTick
  split
  · exact leads_whileRunning fun _ => .single (.clock _ _ _ (Nat.zero_le _) (.inr rfl))
  · exact leads_next .refl

theorem leads_intervalExpiry : Leads resets stores s (execIntervalExpiry s) := by
  unfold execIntervalExpiry
  split
  · exact leads_next .refl
  · next e htimer =>
    split
    · split
      · next hcredit => exact leads_whileRunning fun _ => .single (.expiry e _ htimer (.inr hcredit))
      · exact leads_whileRunning fun _ =>
          .head (.expiry e s.scrub.credit htimer (.inl rfl)) (.single (move_offer _))
    · exact leads_next .refl

theorem moves_scrubAt {p : Nat} (hstores : stores = some p) : Moves resets stores s (s.scrubAt p) := by
  unfold State.scrubAt
  dsimp only
  split
  · exact .refl
  · exact .head (.store _ hstores) (.head (move_report _ _) (.single (move_offer _)))
  · exact .single (move_offer _)

theorem leads_scrubDecode : Leads resets (storeAddress s .scrubDecode) s (execScrubDecode s) := by
  unfold execScrubDecode
  split
  · split
    · exact leads_next .refl
    · next st hstep =>
      split
      · exact leads_next .refl
      · refine leads_atArray fun _ => leads_whileRunning fun _ => .head (.scrubDecoded st hstep) (moves_scrubAt ?_)
        simp [storeAddress, hstep]
  · exact leads_next .refl

/-- One word further than a word of the array is a word of the array. -/
theorem cursorNext_lt {w : Nat} {c : Nat × BitVec 16} (hw : 0 < w) : (cursorNext w c).1 < w := by
  unfold cursorNext
  split
  · assumption
  · exact hw

theorem State.W_pos (s : State) : 0 < s.W := Nat.lt_of_lt_of_le (by decide) s.W_large

theorem leads_scrubStepCompletion : Leads resets stores s (execScrubStepCompletion s) := by
  unfold execScrubStepCompletion
  split
  · next htenure =>
    split
    · exact leads_next .refl
    · split
      · refine leads_whileRunning fun _ => .single (.scrubDone _ _ _ htenure (Nat.sub_le _ _) ?_)
        split
        · exact .inl rfl
        · exact .inr (cursorNext_lt s.W_pos)
      · exact leads_next .refl
  · exact leads_next .refl

/-! ### Migration -/

/-- A start is a start's change and then the offers of the DUE entries. -/
theorem migrationStart_cases (h : execMigrationStart s = .next t) :
    t = s ∨ ∃ u, StartMove s u ∧ t = u.offerDueEntries := by
  unfold execMigrationStart at h
  split at h
  · exact .inl (by cases h; rfl)
  · next r rest hretq =>
    split at h
    · next hstart =>
      simp only [State.canStart, Bool.and_eq_true, Bool.or_eq_true, decide_eq_true_eq, Option.isNone_iff_eq_none]
        at hstart
      obtain ⟨⟨hmigration, hlifecycle⟩, -⟩ := hstart
      dsimp only [whileRunning] at h
      split at h
      · exact .inl (by cases h; rfl)
      · refine .inr ?_
        split at h <;> cases h
        · next k hk => exact ⟨_, .withSlot r rest k hretq hmigration hlifecycle (State.lowestFree_some hk), rfl⟩
        · exact ⟨_, .withoutSlot r rest hretq hmigration, rfl⟩
    · exact .inl (by cases h; rfl)

theorem moves_copyReadOutcome {c : MigrationContext} {p : Nat} {b : DataWord} (d : Decoded)
    (hcontext : s.migration = some c) (htenure : s.seq.tenure = .migration .copyRead p b true) :
    Moves resets stores s (s.freePort.copyReadOutcome c d) := by
  have hcopied := Move.contextStep (resets := resets) (stores := stores) c _ _ p b hcontext htenure (.copied c d.output)
  unfold State.copyReadOutcome
  split
  · exact .single hcopied
  · exact .head hcopied (.single (move_offer _))
  · refine .head (.migrationTenureDone _ p b true htenure) ?_
    refine .head (move_offer (.ue (.migrate c.logical) c.source d.syndrome)) ?_
    refine .head (move_offer (.migrationAbandoned c.logical .sourceUE c.target)) ?_
    refine (moves_dropWatch c.source).trans (moves_endAndFree hcontext ?_)
    exact fun e he hp => absurd hp (not_watched_dropWatch _ _ e he)

theorem leads_copyReadCompletion : Leads resets stores s (execCopyReadCompletion s) := by
  unfold execCopyReadCompletion
  split
  · next p d live htenure =>
    refine leads_atArray fun _ => leads_whileRunning fun _ => ?_
    have hdiscarded : Moves resets stores s s.freePort := .single (.migrationTenureDone _ p d live htenure)
    split
    · next c hcontext =>
      split
      · next hlive => exact moves_copyReadOutcome _ hcontext (hlive ▸ htenure)
      · exact hdiscarded
    · exact hdiscarded
  all_goals exact leads_next .refl

theorem leads_copyWriteCompletion : Leads resets (storeAddress s .copyWriteCompletion) s (execCopyWriteCompletion s) := by
  unfold execCopyWriteCompletion
  split
  · next p d live htenure =>
    refine leads_atArray fun _ => leads_whileRunning fun _ => .head (.store (p := p) (encodeWord d) ?_) ?_
    · simp [storeAddress, htenure]
    · have hdiscarded : Moves resets (storeAddress s .copyWriteCompletion) (s.store p (encodeWord d))
          (s.store p (encodeWord d)).freePort := .single (.migrationTenureDone _ p d live htenure)
      split
      · next c hcontext =>
        split
        · next hlive => exact .single (.contextStep c _ _ p d hcontext (hlive ▸ htenure) (.stored c))
        · exact hdiscarded
      · exact hdiscarded
  all_goals exact leads_next .refl

theorem moves_verifyFailed {c : MigrationContext} {p : Nat} {b : DataWord} (found : WordClass)
    (hcontext : s.migration = some c) (htenure : s.seq.tenure = .migration .verify p b true) :
    Moves resets stores s (s.freePort.verifyFailed c found) := by
  unfold State.verifyFailed
  dsimp only
  split
  · next k hk =>
    refine .head (move_offer (.spareFail c.target c.logical found)) (.single ?_)
    exact .targetReplaced c p b k hcontext htenure (State.lowestFree_some hk)
  · refine .head (.migrationTenureDone _ p b true htenure) ?_
    refine .head (move_offer (.spareFail c.target c.logical found)) (.head (move_offer (.slotsExhausted c.logical)) ?_)
    refine .head (.watchState c.source .stuck trivial) (.single (.migrationEnds c .bad hcontext (.inr rfl) ?_))
    exact fun e he hp => by simp [state_of_mem_setWatch he hp]

/-- Install's change, once its record is offered and its source is no longer watched. -/
theorem moves_installEntry {c : MigrationContext} (hcontext : s.migration = some c)
    (hwatch : ∀ e ∈ s.watch, e.physical ≠ c.source) : Moves resets stores s (s.installEntry c).endContext := by
  unfold State.installEntry
  split
  · next hunmapped => exact .single (.installed c hcontext hunmapped hwatch)
  · next old hmapped =>
    refine .single (.installedAgain c old _ hcontext hmapped ?_ hwatch)
    split
    · exact Nat.min_le_right _ _
    · decide

/-- The record's offer and the end of the watch do not meet the change of the table. -/
theorem State.install_eq (s : State) (c : MigrationContext) :
    s.install c =
      (((s.offer (.migrationDone c.logical c.source c.target)).dropWatch c.source).installEntry c).endContext := by
  have hmapped : ((s.offer (.migrationDone c.logical c.source c.target)).dropWatch c.source).mappedSlot c.logical =
    s.mappedSlot c.logical := rfl
  unfold State.install State.installEntry
  rw [hmapped]
  cases s.mappedSlot c.logical <;> rfl

theorem moves_install {c : MigrationContext} (hcontext : s.migration = some c) : Moves resets stores s (s.install c) := by
  rw [State.install_eq]
  refine .head (move_offer _) ((moves_dropWatch _).trans (moves_installEntry ?_ (not_watched_dropWatch _ _)))
  exact hcontext

theorem moves_verifyOutcome {c : MigrationContext} {p : Nat} {b : DataWord} (d : Decoded)
    (hcontext : s.migration = some c) (htenure : s.seq.tenure = .migration .verify p b true) :
    Moves resets stores s (s.freePort.verifyOutcome c d) := by
  unfold State.verifyOutcome
  split
  · split
    · unfold State.verifyDirty
      split
      · next hrestarts => exact .single (.contextStep c _ _ p b hcontext htenure (.restarted c hrestarts))
      · next hrestarts => exact .single (.contextStep c _ _ p b hcontext htenure (.pinned c hrestarts))
    · exact .head (.migrationTenureDone _ p b true htenure) (moves_install hcontext)
  · exact moves_verifyFailed d.found hcontext htenure

theorem leads_verifyCompletion : Leads resets stores s (execVerifyCompletion s) := by
  unfold execVerifyCompletion
  split
  · next p d live htenure =>
    refine leads_atArray fun _ => leads_whileRunning fun _ => ?_
    have hdiscarded : Moves resets stores s s.freePort := .single (.migrationTenureDone _ p d live htenure)
    split
    · next c hcontext =>
      split
      · next hlive => exact moves_verifyOutcome _ hcontext (hlive ▸ htenure)
      · exact hdiscarded
    · exact hdiscarded
  all_goals exact leads_next .refl

/-- A command's row answers next, and does what its take does. -/
theorem leads_takeCommand (code : BitVec 8) {owner : State → State}
    (howner : ∀ u : State, u.mgmt.busy = false → Moves resets stores u (owner u)) :
    Leads resets stores s (.next (s.takeCommand code owner)) :=
  leads_next (moves_takeCommand code howner)

theorem moves_answer (r : CommandResult) : Moves resets stores s (s.answer r) := .single (move_answer r)

theorem leads_cancelMigration : Leads resets stores s (execCancelMigration s) := by
  refine leads_takeCommand _ fun u _ => ?_
  split
  · exact .tail (moves_abortMigration _) (move_answer _)
  · exact moves_answer _

/-! ### Fill, PEEK and POKE -/

/-- The end of FILLING with the last fill word (R159). -/
theorem moves_endFilling {back : FillReturn} (hlifecycle : s.lifecycle = .filling back)
    (htenure : s.seq.tenure = .none) : Moves resets stores s (s.endFilling back) := by
  have hends := Move.fillEnds (resets := resets) (stores := stores) back htenure hlifecycle
  unfold State.endFilling
  dsimp only
  split
  · exact .head hends (.single (move_mgmt _ rfl rfl rfl rfl rfl))
  · next hidle =>
    have hsame : { s.mgmt with busy := false } = s.mgmt := by
      rw [← Bool.eq_false_of_not_eq_true hidle]
    rw [hsame] at hends
    exact .single hends

theorem leads_fillWordCompletion : Leads resets (storeAddress s .fillWordCompletion) s (execFillWordCompletion s) := by
  unfold execFillWordCompletion
  split
  · next p htenure =>
    refine leads_atArray fun _ => leads_whileRunning fun _ => ?_
    refine .head (.store (p := p) ⟨0, 0⟩ (by simp [storeAddress, htenure])) (.head (.fillWordDone p htenure) ?_)
    split
    · next back hlifecycle =>
      split
      · exact moves_endFilling hlifecycle rfl
      · exact .refl
    all_goals exact .refl
  all_goals exact leads_next .refl

theorem moves_takeDiag {p : Nat} {claim : DiagClaim} (hclaim : claim.address = p) (hidle : s.mgmt.busy = false) :
    Moves resets stores s (s.takeDiag p claim) := by
  unfold State.takeDiag
  split
  · exact moves_answer _
  · next hp =>
    have haddress : claim.address < s.W := by omega
    split
    · exact moves_answer _
    all_goals next hl => exact .single (.diagTaken claim hidle haddress (by rw [hl]; rfl))

theorem leads_peekCompletion : Leads resets stores s (execPeekCompletion s) := by
  unfold execPeekCompletion
  split
  · next p htenure =>
    refine leads_atArray fun _ => leads_whileRunning fun _ => ?_
    refine .head (move_mgmt { s.mgmt with diag := diagOf (s.decodeAt p) } rfl rfl rfl rfl rfl) ?_
    refine .head (.diagDone (by simp only [htenure]; rfl)) (.single (move_mgmt _ rfl rfl rfl rfl rfl))
  all_goals exact leads_next .refl

theorem leads_pokeCompletion : Leads resets (storeAddress s .pokeCompletion) s (execPokeCompletion s) := by
  unfold execPokeCompletion
  split
  · next p w htenure =>
    refine leads_atArray fun _ => leads_whileRunning fun _ => ?_
    refine .head (.store (p := p) w (by simp [storeAddress, htenure])) ?_
    refine .head (.diagDone (by simp only [State.store_seq, htenure]; rfl)) (.single (move_mgmt _ rfl rfl rfl rfl rfl))
  all_goals exact leads_next .refl

/-! ### Table commands -/

theorem moves_takeMap (l : Nat) (slot : Option (Fin 64)) : Moves resets stores s (s.takeMap l slot) := by
  unfold State.takeMap
  split
  · exact moves_answer _
  · next k =>
    split_ifs with hl hmapped hfree hbusy
    · exact moves_answer _
    · exact moves_answer _
    · exact moves_answer _
    · exact moves_answer _
    · simp only [Bool.or_eq_true, not_or, Bool.not_eq_true] at hbusy
      refine .tail ((moves_dropWatch l).tail (.mapped l k (Nat.not_le.mp hl) ?_ ?_ hbusy.1 hbusy.2
        (not_watched_dropWatch s l))) (move_answer _)
      · exact Option.not_isSome_iff_eq_none.mp hmapped
      · simpa [State.slotIsFree] using hfree

theorem moves_takeUnmap (l : Nat) : Moves resets stores s (s.takeUnmap l) := by
  unfold State.takeUnmap
  split
  · exact moves_answer _
  · split
    · exact moves_answer _
    · next k hmapped =>
      split
      · exact moves_answer _
      · next hmigrating =>
        refine .tail (.trans ?_ moves_releaseStuck) (move_answer _)
        exact (moves_dropWatch (s.slotAddress k)).tail
          (.unmapped l k hmapped (Bool.eq_false_of_not_eq_true hmigrating) (not_watched_dropWatch s _))

theorem moves_takeSlotFree (slot : Option (Fin 64)) : Moves resets stores s (s.takeSlotFree slot) := by
  unfold State.takeSlotFree
  split
  · exact moves_answer _
  · next k =>
    split
    · next hbad => exact .tail (.head (.slotMoved k .free (.inl ⟨hbad, rfl⟩)) moves_releaseStuck) (move_answer _)
    · exact moves_answer _

theorem moves_takeSlotBad (slot : Option (Fin 64)) : Moves resets stores s (s.takeSlotBad slot) := by
  unfold State.takeSlotBad
  split
  · exact moves_answer _
  · next k =>
    split
    · next hfree =>
      exact .tail (.single (.slotMoved k .bad (.inr ⟨by simpa [State.slotIsFree] using hfree, rfl⟩))) (move_answer _)
    · exact moves_answer _

/-! ### Accounting commands -/

theorem moves_takeRetire (l : Nat) : Moves resets stores s (s.takeRetire l) := by
  unfold State.takeRetire
  split_ifs with hl hduplicate hfull
  · exact moves_answer _
  · exact moves_answer _
  · exact moves_answer _
  · simp only [Bool.or_eq_true, not_or, Bool.not_eq_true] at hduplicate
    have hqueued : Move resets stores s { s with retq := s.retq ++ [⟨l, .command⟩] } :=
      .retirementQueued l .command (by simpa [Config.retirePlaces] using hfull) hduplicate.1 hduplicate.2
        (.inl (by simpa using hl))
    refine .head hqueued (.tail (.single (.watchState (s.forward l) .queued ?_)) (move_answer .ok))
    exact ⟨l, by simp [State.queuedForRetirement], .inr rfl⟩

theorem moves_takeSeek (p : Nat) : Moves resets stores s (s.takeSeek p) := by
  unfold State.takeSeek
  split
  · exact moves_answer _
  · next hp => exact .head (.seek p (by simpa using hp)) (moves_answer _)

/-! ### Lifecycle commands -/

theorem leads_open : Leads resets stores s (execOpen s) := by
  refine leads_takeCommand _ fun u _ => ?_
  split
  · next hlifecycle => exact .head (.opened hlifecycle) (moves_answer _)
  all_goals exact moves_answer _

theorem moves_beginDrain (target : DrainTarget) (hidle : s.mgmt.busy = false) (hlifecycle : s.lifecycle = .opened) :
    Moves resets stores s (s.beginDrain target) := by
  refine .head (.drainBegins target hidle hlifecycle) ?_
  unfold State.beginDrain
  dsimp only
  split
  · next hempty => exact moves_endDrain (List.isEmpty_iff.mp hempty)
  · exact .refl

theorem leads_close : Leads resets stores s (execClose s) := by
  refine leads_takeCommand _ fun u hidle => ?_
  split
  · next hlifecycle => exact moves_beginDrain _ hidle hlifecycle
  all_goals exact moves_answer _

theorem leads_fill : Leads resets stores s (execFill s) := by
  refine leads_takeCommand _ fun u hidle => ?_
  split
  · next hlifecycle => exact moves_beginDrain _ hidle hlifecycle
  · next hlifecycle => exact moves_beginFilling .hold true (.inr ⟨hlifecycle, hidle, rfl⟩)
  all_goals exact moves_answer _

/-- The release of the target and the end of the context at SOFT_RESET, with nothing watched (R35, R111). -/
theorem moves_releaseTarget (hwatch : s.watch = []) : Moves resets stores s s.releaseTarget.endContext := by
  unfold State.releaseTarget
  split
  · next c hcontext => exact .single (.migrationEnds c .free hcontext (.inl rfl) (by simp [hwatch]))
  · next hcontext => exact .single (.orphaned hcontext)

/-- SOFT_RESET's effect, with the Watch List emptied first: no other part of it looks at that list. -/
theorem State.softReset_eq (s : State) :
    s.softReset = State.softReset { s with watch := [] } := by
  unfold State.softReset State.releaseTarget
  cases s.migration <;> rfl

theorem moves_softReset : Moves resets stores s s.softReset := by
  rw [State.softReset_eq]
  refine .head (.watchRemoved [] (List.nil_sublist _)) ((moves_releaseTarget rfl).trans (.head .scrubReset ?_))
  refine .head (.watchRemoved [] (List.nil_sublist _)) (.head (.retirementsCleared rfl) (.single .logReset))

/-! ### Log commands -/

theorem leads_popLog : Leads resets stores s (execPopLog s) := by
  refine leads_takeCommand _ fun u _ => ?_
  split
  · exact moves_answer _
  · next r rest hrecords => exact .head (.logRemove rest ⟨[r], by rw [hrecords]; rfl⟩) (moves_answer _)

theorem leads_clearLog : Leads resets stores s (execClearLog s) :=
  leads_takeCommand _ fun _ _ => .head (.logRemove [] (List.nil_suffix)) (moves_answer _)

theorem leads_clearSummary : Leads resets stores s (execClearSummary s) :=
  leads_takeCommand _ fun _ _ => .head .logClearSummary (moves_answer _)

/-! ### Frames and windows -/

theorem leads_unknownFrameKind (kind : BitVec 8) : Leads resets stores s (execUnknownFrameKind kind s) := by
  unfold execUnknownFrameKind
  split
  · exact leads_next .refl
  · dsimp only
    split
    · next n hframe =>
      refine leads_next (.tail moves_openFrame ?_)
      exact .port s.openFrame.pins _ rfl rfl rfl (.inr ⟨rfl, rfl⟩) (.inr (.inr ⟨by simp, fun _ => by simp [hframe]⟩))
    · exact leads_next moves_openFrame
    all_goals exact leads_next .refl

theorem leads_select (window : BitVec 8) (index : BitVec 16) : Leads resets stores s (execSelect window index s) := by
  refine leads_next (moves_atFrameEnd fun u => ?_)
  dsimp only
  split
  · exact .single (.port u.pins _ rfl rfl rfl (.inl (Nat.min_le_right _ _)) (.inr (.inl ⟨rfl, rfl⟩)))
  · exact .single (.port u.pins _ rfl rfl rfl (.inl (Nat.zero_le _)) (.inr (.inl ⟨rfl, rfl⟩)))

theorem nextPointer_le (s : State) :
    s.nextPointer ≤ s.mgmt.window.lastIndex ∨ s.nextPointer = s.mgmt.pointer := by
  unfold State.nextPointer
  split
  · exact .inl (by omega)
  · exact .inr rfl

theorem move_advancePointer : Move resets stores s s.advancePointer :=
  .port s.pins _ rfl rfl rfl ((nextPointer_le s).imp_right fun h => ⟨h, rfl⟩) (.inr (.inl ⟨rfl, rfl⟩))

theorem leads_readWord : Leads resets stores s (execReadWord s) := by
  have hload (n : Nat) (hframe : s.openFrame.mgmt.frame ≠ .idle) :
      Moves resets stores s ({ s.openFrame with
        mgmt := { s.openFrame.mgmt with
          frame := .running .read n, shiftPath := s.openFrame.mgmt.holder,
          holder := s.openFrame.windowWord s.openFrame.mgmt.window s.openFrame.mgmt.pointer } } : State).advancePointer := by
    refine .tail (.tail moves_openFrame ?_) move_advancePointer
    exact .port s.openFrame.pins _ rfl rfl rfl (.inr ⟨rfl, rfl⟩) (.inr (.inr ⟨by simp, fun _ => hframe⟩))
  refine leads_next ?_
  unfold State.takeReadWord
  dsimp only
  split
  · next hframe => exact hload 8 (by simp [hframe])
  · next n hframe => exact hload (n + 32) (by simp [hframe])
  · exact moves_openFrame
  all_goals exact .refl

theorem moves_writeConfig (i : Nat) (v : MgmtWord) : Moves resets stores s (s.writeConfig i v) := by
  have hrefused : Moves resets stores s s.refuseWrite := .single move_refuseWrite
  have hword (threshold : Nat) (writeback : Bool) (mask : BitVec 8) (fairness : Nat) hthreshold hfairness :=
    ReflTransGen.single (Move.configWord (resets := resets) (stores := stores) (s := s) threshold writeback mask fairness hthreshold hfairness)
  unfold State.writeConfig
  split
  · split
    · next hv => exact hword _ s.config.readWriteback s.config.alertMask _ (.inr hv) (.inl rfl)
    · exact hrefused
  · split
    · next hv => exact .single (.configInterval _ _ hv (by cases s.lifecycle <;> rfl))
    · exact hrefused
  · split
    · exact hword _ (decide (v.toNat = 1)) s.config.alertMask _ (.inl rfl) (.inl rfl)
    · exact hrefused
  · split
    · exact hword _ s.config.readWriteback (v.setWidth 8) _ (.inl rfl) (.inl rfl)
    · exact hrefused
  · split
    · next hv => exact .single (.configDivisor _ hv)
    · exact hrefused
  · split
    · next hv => exact hword _ s.config.readWriteback s.config.alertMask _ (.inl rfl) (.inr hv)
    · exact hrefused
  · exact hrefused

theorem moves_writeDiag (i : Nat) (v : MgmtWord) : Moves resets stores s (s.writeDiag i v) := by
  have hrefused : Moves resets stores s s.refuseWrite := .single move_refuseWrite
  unfold State.writeDiag
  split
  · exact .single (move_mgmt _ rfl rfl rfl rfl rfl)
  · exact .single (move_mgmt _ rfl rfl rfl rfl rfl)
  · split
    · exact .single (move_mgmt _ rfl rfl rfl rfl rfl)
    · exact hrefused
  · exact hrefused

theorem moves_storeWord (v : MgmtWord) : Moves resets stores s (s.storeWord v) := by
  unfold State.storeWord
  split
  · exact moves_writeConfig _ v
  · exact moves_writeDiag _ v
  all_goals exact .single move_refuseWrite

theorem moves_takeWriteWord (v : MgmtWord) : Moves resets stores s (s.takeWriteWord v) := by
  have hwrite (n : Nat) (hframe : s.openFrame.mgmt.frame ≠ .idle) :
      Moves resets stores s (({ s.openFrame with mgmt := { s.openFrame.mgmt with frame := .running .write n } } :
        State).storeWord v).advancePointer := by
    refine .tail (.trans (.tail moves_openFrame ?_) (moves_storeWord v)) move_advancePointer
    exact .port s.openFrame.pins _ rfl rfl rfl (.inr ⟨rfl, rfl⟩) (.inr (.inr ⟨by simp, fun _ => hframe⟩))
  unfold State.takeWriteWord
  dsimp only
  split
  · next hframe => exact hwrite 40 (by simp [hframe])
  · next n hframe => exact hwrite (n + 32) (by simp [hframe])
  · exact moves_openFrame
  all_goals exact .refl

theorem moves_writeAtConfig (i : Nat) (v : MgmtWord) : Moves resets stores s (s.writeAtConfig i v) := by
  unfold State.writeAtConfig
  split
  · exact moves_takeWriteWord v
  · exact .refl

theorem leads_unknownCommand (code : BitVec 8) : Leads resets stores s (execUnknownCommand code s) := by
  unfold execUnknownCommand
  split
  · exact leads_next .refl
  · exact leads_takeCommand _ fun _ _ => moves_answer _

/-! ### Every row -/

/-- Every command but MIGRATION_START is a run of moves, which store at most to the command's own address. -/
theorem exec_leads (c : Instr) (hc : c ≠ .migrationStart) : Leads (movesReset c) (storeAddress s c) s (exec c s) := by
  cases c with
  | resetNLow midWrite => exact leads_resetNLow midWrite
  | resetNRise a preserve => exact leads_resetNRise a preserve
  | requestTaken header b0 b1 b2 b3 => exact leads_requestTaken header b0 b1 b2 b3
  | heldRequestTaken => exact leads_heldRequestTaken
  | responseTaken => exact leads_responseTaken
  | grantDecision => exact leads_grantDecision
  | hostReadBeat => exact leads_hostReadBeat
  | hostWriteBeat => exact leads_hostWriteBeat
  | hostMergeBeat => exact leads_hostMergeBeat
  | hostTenureCompletion => exact leads_hostTenureCompletion
  | recordOffer src => exact leads_recordOffer src
  | ceReport src => exact leads_ceReport src
  | microsecondTick => exact leads_microsecondTick
  | intervalExpiry => exact leads_intervalExpiry
  | scrubDecode => exact leads_scrubDecode
  | scrubStepCompletion => exact leads_scrubStepCompletion
  | migrationStart => exact absurd rfl hc
  | copyReadCompletion => exact leads_copyReadCompletion
  | copyWriteCompletion => exact leads_copyWriteCompletion
  | verifyCompletion => exact leads_verifyCompletion
  | fillWordCompletion => exact leads_fillWordCompletion
  | peekCompletion => exact leads_peekCompletion
  | pokeCompletion => exact leads_pokeCompletion
  | map l slot => exact leads_takeCommand _ fun _ _ => moves_takeMap _ _
  | unmap l => exact leads_takeCommand _ fun _ _ => moves_takeUnmap _
  | slotFree slot => exact leads_takeCommand _ fun _ _ => moves_takeSlotFree _
  | slotBad slot => exact leads_takeCommand _ fun _ _ => moves_takeSlotBad _
  | peek p => exact leads_takeCommand _ fun _ hidle => moves_takeDiag rfl hidle
  | poke p => exact leads_takeCommand _ fun _ hidle => moves_takeDiag rfl hidle
  | scrubSeek p => exact leads_takeCommand _ fun _ _ => moves_takeSeek _
  | retire l => exact leads_takeCommand _ fun _ _ => moves_takeRetire _
  | clearWatch => exact leads_takeCommand _ fun _ _ => .head (.watchRemoved [] (List.nil_sublist _)) (moves_answer _)
  | cancelMigration => exact leads_cancelMigration
  | popLog => exact leads_popLog
  | clearLog => exact leads_clearLog
  | clearSummary => exact leads_clearSummary
  | openArray => exact leads_open
  | closeArray => exact leads_close
  | fillArray => exact leads_fill
  | softReset => exact leads_takeCommand _ fun _ _ => moves_softReset.tail (move_answer _)
  | unknownCommand code => exact leads_unknownCommand code
  | select window index => exact leads_select window index
  | readWord => exact leads_readWord
  | writeWord value => exact leads_next (moves_takeWriteWord value)
  | scrubIntervalWrite value => exact leads_next (moves_writeAtConfig 1 value)
  | timebaseDivWrite value => exact leads_next (moves_writeAtConfig 4 value)
  | alertMaskWrite value => exact leads_next (moves_writeAtConfig 3 value)
  | unknownFrameKind kind => exact leads_unknownFrameKind kind
  | frameStart => exact leads_next moves_openFrame
  | frameEnd => exact leads_next (.single move_frameEnded)
  | referenceClockPeriod => exact leads_referenceClockPeriod

/-- What a command that answers next has done: a run of moves, or a migration start. -/
theorem exec_moves {c : Instr} (h : exec c s = .next t) :
    Moves (movesReset c) (storeAddress s c) s t ∨ ∃ u, StartMove s u ∧ t = u.offerDueEntries := by
  by_cases hc : c = .migrationStart
  · subst hc
    obtain rfl | hstart := migrationStart_cases h
    · exact .inl .refl
    · exact .inr hstart
  · exact .inl (exec_leads c hc t h)

/-! ### What every move keeps, every step keeps -/

theorem moves_keep {I : State → Prop} (hmove : ∀ {s t : State}, Move resets stores s t → I s → I t) (h : Moves resets stores s t)
    (hI : I s) : I t := by
  induction h with
  | refl => exact hI
  | tail _ hmoved ih => exact hmove hmoved ih

/-- A predicate that every move keeps, and every start with the offers that follow it, is kept by every command. -/
theorem exec_keeps_of_start {I : State → Prop} (hmove : ∀ {resets : Bool} {stores : Option Nat} {s t : State}, Move resets stores s t → I s → I t)
    (hstart : ∀ {s u : State}, StartMove s u → I s → I u.offerDueEntries) {c : Instr} (h : exec c s = .next t)
    (hI : I s) : I t := by
  obtain hmoves | ⟨u, hu, rfl⟩ := exec_moves h
  · exact moves_keep hmove hmoves hI
  · exact hstart hu hI

/-- A predicate that every move and every start's change keep is kept by every command. -/
theorem exec_keeps {I : State → Prop} (hmove : ∀ {resets : Bool} {stores : Option Nat} {s t : State}, Move resets stores s t → I s → I t)
    (hstart : ∀ {s u : State}, StartMove s u → I s → I u) {c : Instr} (h : exec c s = .next t) (hI : I s) : I t :=
  exec_keeps_of_start hmove (fun hu hI => moves_keep (resets := false) (stores := none) hmove moves_offerDueEntries (hstart hu hI)) h hI

/-- A predicate that commands keep, and that does not look at the queue of commands, is kept by every step. -/
theorem step_keeps {I : State → Prop} (hpending : ∀ (s : State) (cs : List Instr), I s → I { s with pending := cs })
    (hexec : ∀ {c : Instr} {s t : State}, exec c s = .next t → I s → I t) (h : step s = .next t) (hI : I s) : I t := by
  unfold step at h
  split at h
  · cases h
    exact hI
  · exact hexec h (hpending s _ hI)

/-- What every move and every start's change keep, every step keeps. -/
theorem step_keeps_of_moves (I : State → Prop) (hpending : ∀ (s : State) (cs : List Instr), I s → I { s with pending := cs })
    (hmove : ∀ {resets : Bool} {stores : Option Nat} {s t : State}, Move resets stores s t → I s → I t)
    (hstart : ∀ {s u : State}, StartMove s u → I s → I u) (h : step s = .next t) (hI : I s) : I t :=
  step_keeps hpending (exec_keeps hmove hstart) h hI

end Sys2Proof.Machine

/-! ## The array and the queue of commands: O2, O10 and O49 -/

namespace Sys2Proof.Machine

variable {resets : Bool} {stores : Option Nat} {s t : State}

theorem Move.pending (h : Move resets stores s t) : t.pending = s.pending := by
  cases h <;> rfl

theorem StartMove.pending (h : StartMove s t) : t.pending = s.pending := by
  cases h <;> rfl

/-- Settles O2: no move touches the queue of commands. -/
theorem execKeepsPendingCommands : Obligations.ExecKeepsPendingCommands := by
  intro c s t h
  exact exec_keeps (I := fun u => u.pending = s.pending) (fun hmove hI => hmove.pending.trans hI)
    (fun hstart hI => hstart.pending.trans hI) h rfl

theorem Move.arrayRead {q : Nat} (h : Move resets stores s t) (hq : stores ≠ some q) :
    arrayRead t.array q = arrayRead s.array q := by
  cases h with
  | store w haddress => exact arrayRead_write_other fun hp => hq (hp ▸ haddress)
  | _ => rfl

theorem StartMove.array (h : StartMove s t) : t.array = s.array := by
  cases h <;> rfl

/-- Settles O10: the moves of a command store at its own address only, and a start stores nowhere. -/
theorem onlyTheNamedWordChanges : Obligations.OnlyTheNamedWordChanges := by
  intro c s t q h hq
  obtain hmoves | ⟨u, hstart, rfl⟩ := exec_moves h
  · exact moves_keep (I := fun u => arrayRead u.array q = arrayRead s.array q)
      (fun hmove hI => (hmove.arrayRead hq).trans hI) hmoves rfl
  · have hoffers : u.offerDueEntries.array = u.array := by
      obtain ⟨w, r, hframe⟩ := u.offerDueEntries_frame
      rw [hframe]
    rw [hoffers, hstart.array]

theorem Move.arrayCanonical (h : Move resets stores s t) (hI : s.ArrayCanonical) : t.ArrayCanonical := by
  cases h with
  | store w _ => exact State.store_arrayWf hI
  | _ => exact hI

/-- Settles O49: a store keeps the canonical form, and no other move touches the array. -/
theorem arrayStaysCanonical : Obligations.ArrayStaysCanonical := by
  intro s t hI h
  refine step_keeps_of_moves State.ArrayCanonical (fun _ _ hI => hI) Move.arrayCanonical ?_ h hI
  exact fun hstart hI => by rwa [State.ArrayCanonical, hstart.array]

end Sys2Proof.Machine

/-! ## The Error Log: O52 -/

namespace Sys2Proof.Machine

variable {resets : Bool} {stores : Option Nat} {s t : State}

/-! ### The records -/

theorem bumpNewest_append (rs : List LogRecord) (r : LogRecord) :
    bumpNewest (rs ++ [r]) = rs ++ [{ r with repeats := min (r.repeats + 1) Config.countMax }] := by
  induction rs with
  | nil => rfl
  | cons a rs ih =>
    cases rs with
    | nil => rfl
    | cons b rs => exact congrArg (a :: ·) ih

theorem dropOldestNotice_append {a b : List LogRecord} {r : LogRecord} (ha : ∀ x ∈ a, x.offer.severe = true)
    (hr : r.offer.severe = false) : dropOldestNotice (a ++ r :: b) = a ++ b := by
  induction a with
  | nil => simp [dropOldestNotice, hr]
  | cons x a ih =>
    obtain ⟨hx, ha⟩ := List.forall_mem_cons.mp ha
    rw [List.cons_append, dropOldestNotice, if_pos hx, ih ha, List.cons_append]

/-- A list with a NOTICE has an oldest one. -/
theorem exists_oldestNotice {rs : List LogRecord} (h : rs.any (fun r => !r.offer.severe) = true) :
    ∃ a r b, rs = a ++ r :: b ∧ (∀ x ∈ a, x.offer.severe = true) ∧ r.offer.severe = false := by
  obtain ⟨r, hr⟩ := Option.isSome_iff_exists.mp ((List.find?_isSome (p := fun r : LogRecord => !r.offer.severe)).mpr
    (by simpa using h))
  obtain ⟨hnotice, a, b, hrs, ha⟩ := List.find?_eq_some_iff_append.mp hr
  exact ⟨a, r, b, hrs, fun x hx => by simpa using ha x hx, by simpa using hnotice⟩

/-! ### The flags -/

theorem getLsbD_setFlag (flags : BitVec 7) {i j : Nat} (hi : i < 7) :
    (setFlag flags j).getLsbD i = (flags.getLsbD i || decide (i = j)) := by
  rw [setFlag, BitVec.getLsbD_or, BitVec.getLsbD_twoPow]
  by_cases hij : i = j
  · subst hij
    simp [hi]
  · simp [hij, Ne.symm hij]

theorem getLsbD_setFlag? (flags : BitVec 7) (j : Option Nat) {i : Nat} (hi : i < 7) :
    (setFlag? flags j).getLsbD i = (flags.getLsbD i || decide (j = some i)) := by
  cases j with
  | none => simp [setFlag?]
  | some j => rw [setFlag?, getLsbD_setFlag flags hi]; simp [eq_comm]

/-- No offer's own flag is DROPPED. -/
theorem Offer.flag_ne_dropped (o : Offer) : o.flag ≠ some flagDropped := by
  cases o <;> simp [Offer.flag, flagDropped, flagUESeen, flagCESeen, flagSpareFailed, flagExhausted, flagOverrun, flagRefused]

/-! ### The outcomes of an offer (R122) -/

/-- What the log holds after an offer, by its outcome: the records with their numbering, the dropped count and
DROPPED. -/
theorem State.logAfter_cases (s : State) (o : Offer) :
    (∃ rs r, s.log.records = rs ++ [r] ∧
      (s.logAfter o).records = rs ++ [{ r with repeats := min (r.repeats + 1) 255 }] ∧
      (s.logAfter o).nextSeq = s.log.nextSeq ∧ (s.logAfter o).dropped = s.log.dropped ∧
      (s.logAfter o).flags = setFlag? s.log.flags o.flag) ∨
    (s.log.records.length < 16 ∧ (s.logAfter o).records = s.log.records ++ [s.newRecord o] ∧
      (s.logAfter o).nextSeq = s.log.nextSeq + 1 ∧ (s.logAfter o).dropped = s.log.dropped ∧
      (s.logAfter o).flags = setFlag? s.log.flags o.flag) ∨
    (∃ a r b, s.log.records = a ++ r :: b ∧ (s.logAfter o).records = a ++ b ++ [s.newRecord o] ∧
      (s.logAfter o).nextSeq = s.log.nextSeq + 1 ∧ (s.logAfter o).dropped = min (s.log.dropped + 1) 255 ∧
      (s.logAfter o).flags = setFlag (setFlag? s.log.flags o.flag) flagDropped) ∨
    ((s.logAfter o).records = s.log.records ∧
      (s.logAfter o).nextSeq = s.log.nextSeq ∧ (s.logAfter o).dropped = min (s.log.dropped + 1) 255 ∧
      (s.logAfter o).flags = setFlag (setFlag? s.log.flags o.flag) flagDropped) := by
  unfold State.logAfter State.offerOutcome
  split_ifs with hmerges hspace hdisplaces
  · obtain ⟨r, hr, -⟩ := (Option.any_eq_true _ _).mp hmerges
    obtain ⟨rs, hrs⟩ := List.getLast?_eq_some_iff.mp hr
    refine .inl ⟨rs, r, hrs, ?_, rfl, rfl, rfl⟩
    rw [hrs]
    exact bumpNewest_append rs r
  · exact .inr (.inl ⟨hspace, rfl, rfl, rfl, rfl⟩)
  · obtain ⟨a, r, b, hrs, ha, hr⟩ := exists_oldestNotice ((Bool.and_eq_true _ _ ▸ hdisplaces).2)
    refine .inr (.inr (.inl ⟨a, r, b, hrs, ?_, rfl, rfl, rfl⟩))
    rw [hrs]
    exact congrArg (· ++ [s.newRecord o]) (dropOldestNotice_append ha hr)
  · exact .inr (.inr (.inr ⟨rfl, rfl, rfl, rfl⟩))

/-- DROPPED is set by an offer that counts as dropped, and by no other. -/
theorem dropped_setFlag? (flags : BitVec 7) (o : Offer) :
    (setFlag? flags o.flag).getLsbD flagDropped = flags.getLsbD flagDropped := by
  rw [getLsbD_setFlag? _ _ (by decide), decide_eq_false o.flag_ne_dropped, Bool.or_false]

theorem dropped_setFlag (flags : BitVec 7) : (setFlag flags flagDropped).getLsbD flagDropped = true := by
  rw [getLsbD_setFlag _ (by decide)]
  simp

/-- The log is sound after an offer: by the outcome, the newest record is the bumped one, the new one, or the one before. -/
theorem State.LogSound.logAfter (hI : s.LogSound) (o : Offer) : State.LogSound { s with log := s.logAfter o } := by
  obtain ⟨hlength, hrepeats, hdropped, htie, hnewest⟩ := hI
  have hcounted : min (s.log.dropped + 1) 255 ≠ 0 := by omega
  have hnew : 1 ≤ (s.newRecord o).repeats ∧ (s.newRecord o).repeats ≤ 255 := ⟨le_rfl, by simp [State.newRecord]⟩
  obtain ⟨rs, r, hrs, hrecords, hseq, hcount, hflags⟩ | ⟨hspace, hrecords, hseq, hcount, hflags⟩ |
    ⟨a, r, b, hrs, hrecords, hseq, hcount, hflags⟩ | ⟨hrecords, hseq, hcount, hflags⟩ := s.logAfter_cases o
  all_goals simp only [State.LogSound, hrecords, hseq, hcount, hflags]
  · rw [hrs] at hlength hrepeats hnewest
    refine ⟨by simpa using hlength, fun x hx => ?_, hdropped, by rw [dropped_setFlag?]; exact htie, ?_⟩
    · obtain hx | rfl : x ∈ rs ∨ x = _ := by simpa using hx
      · exact hrepeats x (by simp [hx])
      · have := hrepeats r (by simp)
        simp only
        omega
    · simpa using hnewest
  · refine ⟨by simpa using hspace, fun x hx => ?_, hdropped, by rw [dropped_setFlag?]; exact htie, ?_⟩
    · obtain hx | rfl : x ∈ s.log.records ∨ x = _ := by simpa using hx
      · exact hrepeats x hx
      · exact hnew
    · simp [State.newRecord]
  · rw [hrs] at hlength hrepeats
    refine ⟨by simp at hlength ⊢; omega, fun x hx => ?_, Nat.min_le_right _ _, ?_, ?_⟩
    · obtain hx | hx | rfl : x ∈ a ∨ x ∈ b ∨ x = _ := by simpa using hx
      · exact hrepeats x (by simp [hx])
      · exact hrepeats x (by simp [hx])
      · exact hnew
    · simpa only [dropped_setFlag, true_iff] using hcounted
    · simp [State.newRecord]
  · refine ⟨hlength, hrepeats, Nat.min_le_right _ _, ?_, hnewest⟩
    simpa only [dropped_setFlag, true_iff] using hcounted

theorem State.LogSound.logRemove {records : List LogRecord} (hI : s.LogSound) (hrecords : records <:+ s.log.records) :
    State.LogSound { s with log := { s.log with records := records } } := by
  obtain ⟨hlength, hrepeats, hdropped, htie, hnewest⟩ := hI
  refine ⟨hrecords.length_le.trans hlength, fun r hr => hrepeats r (hrecords.subset hr), hdropped, htie,
    fun r hr => hnewest r ?_⟩
  obtain ⟨gone, hgone⟩ := hrecords
  obtain ⟨rest, rfl⟩ : ∃ rest, records = rest ++ [r] := List.getLast?_eq_some_iff.mp hr
  simp [← hgone]

theorem State.LogSound.of_reset (hlog : s.log = .reset) : s.LogSound := by
  simp [State.LogSound, hlog, ErrorLog.reset]

theorem Move.logSound (h : Move resets stores s t) (hI : s.LogSound) : t.LogSound := by
  cases h with
  | logTake o => exact hI.logAfter o
  | logRemove records hrecords => exact hI.logRemove hrecords
  | logClearSummary =>
    obtain ⟨hlength, hrepeats, -, -, hnewest⟩ := hI
    exact ⟨hlength, hrepeats, Nat.zero_le _, by simp, hnewest⟩
  | logReset => exact .of_reset rfl
  | resetRise a preserve => exact .of_reset rfl
  | _ => exact hI

/-- Settles O52: only the log's own moves touch it, and each keeps its bounds, the tie and the numbering. -/
theorem logStaysSound : Obligations.LogStaysSound := by
  intro s t hI h
  refine step_keeps_of_moves State.LogSound (fun _ _ hI => hI) Move.logSound ?_ h hI
  exact fun hstart hI => by cases hstart <;> exact hI

end Sys2Proof.Machine

/-! ## The timebase and the scrubber: O50 -/

namespace Sys2Proof.Machine

variable {resets : Bool} {stores : Option Nat} {s t : State}

theorem isSome_startTimer (n : Nat) : (startTimer n).isSome = true ↔ n ≠ 0 := by
  unfold startTimer
  split <;> simp [*]

theorem startTimer_le {n e : Nat} (h : e ∈ startTimer n) : e ≤ n := by
  unfold startTimer at h
  split at h
  · cases h
  · cases h
    exact Nat.zero_le n

/-- The timer at a write of SCRUB_INTERVAL and after SOFT_RESET: from 0 outside FILLING. -/
theorem timerAfterSoftReset_eq (s : State) :
    s.timerAfterSoftReset = if s.lifecycle.isFilling = true then none else startTimer s.config.scrubInterval := by
  unfold State.timerAfterSoftReset
  cases s.lifecycle <;> rfl

theorem isSome_timerTick (interval : Nat) (timer : Option Nat) : (timerTick interval timer).isSome = timer.isSome := by
  cases timer <;> rfl

theorem timerTick_le {interval e : Nat} {timer : Option Nat} (h : e ∈ timerTick interval timer) : e ≤ interval := by
  cases timer with
  | none => cases h
  | some n => cases h; exact Nat.min_le_right _ _

/-- The clauses of TimebaseSound that concern the timer, for a timer that starts from 0 outside FILLING. -/
theorem timer_restart_sound (n : Nat) (l : Lifecycle) :
    (∀ e ∈ (if l.isFilling = true then none else startTimer n), e ≤ n) ∧
    ((if l.isFilling = true then none else startTimer n).isSome = true ↔ n ≠ 0 ∧ l.isFilling = false) := by
  cases hl : l.isFilling with
  | true => simp
  | false =>
    simp only [Bool.false_eq_true, if_false, and_true]
    exact ⟨fun e he => startTimer_le he, isSome_startTimer n⟩

theorem riseWith_timebaseSound (s : State) (a : Fin 8) (preserve : Bool) : (s.riseWith a preserve).TimebaseSound := by
  cases preserve <;>
    simp [State.TimebaseSound, State.riseWith, State.afterReset, ConfigWords.reset, Scrubber.reset, Lifecycle.isFilling]

theorem Move.timebaseSound (h : Move resets stores s t) (hI : s.TimebaseSound) : t.TimebaseSound := by
  obtain ⟨hthreshold, hinterval, hdiv, hdiv', hfair, hfair', hperiod, htimer, hruns⟩ := id hI
  cases h with
  | resetRise a preserve => exact riseWith_timebaseSound s a preserve
  | configWord threshold _ _ fairness hthreshold' hfairness' =>
    have hle : threshold ≤ 15 := by omega
    have hrange : 1 ≤ fairness ∧ fairness ≤ 15 := by omega
    exact ⟨hle, hinterval, hdiv, hdiv', hrange.1, hrange.2, hperiod, htimer, hruns⟩
  | configInterval n timer hn htimer' =>
    subst htimer'
    obtain ⟨hle, hsome⟩ := timer_restart_sound n s.lifecycle
    exact ⟨hthreshold, hn, hdiv, hdiv', hfair, hfair', hperiod, hle, hsome⟩
  | configDivisor n hn => exact ⟨hthreshold, hinterval, hn.1, hn.2, hfair, hfair', Nat.zero_le _, htimer, hruns⟩
  | clock n us timer hn htimer' =>
    obtain rfl | rfl := htimer'
    · exact ⟨hthreshold, hinterval, hdiv, hdiv', hfair, hfair', hn, htimer, hruns⟩
    · exact ⟨hthreshold, hinterval, hdiv, hdiv', hfair, hfair', hn, fun e he => timerTick_le he,
        by simpa only [isSome_timerTick] using hruns⟩
  | expiry e credit htimer' _ =>
    rw [htimer'] at hruns
    exact ⟨hthreshold, hinterval, hdiv, hdiv', hfair, hfair', hperiod, by rintro _ ⟨⟩; exact Nat.zero_le _, hruns⟩
  | scrubReset =>
    obtain ⟨hle, hsome⟩ := timerAfterSoftReset_eq s ▸ timer_restart_sound s.config.scrubInterval s.lifecycle
    exact ⟨hthreshold, hinterval, hdiv, hdiv', hfair, hfair', hperiod, hle, hsome⟩
  | opened hlifecycle => rw [hlifecycle] at hruns; exact ⟨hthreshold, hinterval, hdiv, hdiv', hfair, hfair', hperiod, htimer, hruns⟩
  | drainBegins target _ hlifecycle => rw [hlifecycle] at hruns; exact ⟨hthreshold, hinterval, hdiv, hdiv', hfair, hfair', hperiod, htimer, hruns⟩
  | drainEnds hlifecycle _ => rw [hlifecycle] at hruns; exact ⟨hthreshold, hinterval, hdiv, hdiv', hfair, hfair', hperiod, htimer, hruns⟩
  | fillBegins back busy _ _ =>
    exact ⟨hthreshold, hinterval, hdiv, hdiv', hfair, hfair', hperiod, nofun, by simp [Lifecycle.isFilling]⟩
  | fillEnds back _ _ =>
    have hnot : back.lifecycle.isFilling = false := by cases back <;> rfl
    exact ⟨hthreshold, hinterval, hdiv, hdiv', hfair, hfair', hperiod, fun e he => startTimer_le he,
      by simp only [isSome_startTimer, hnot, and_true]⟩
  | _ => exact hI

end Sys2Proof.Machine

namespace Sys2Proof.Machine

variable {resets : Bool} {stores : Option Nat} {s t : State}

/-! ### The scrubber -/

theorem scrubSearch_lt {fuel : Nat} {c : Nat × BitVec 16} (hc : c.1 < s.W) : (s.scrubSearch fuel c).1 < s.W := by
  induction fuel generalizing c with
  | zero => exact hc
  | succ fuel ih =>
    unfold State.scrubSearch
    split
    · exact ih (cursorNext_lt (by omega))
    · exact hc

theorem orphaned_eq_scrub (tenure : Tenure) : tenure.orphaned = .scrub ↔ tenure = .scrub := by
  cases tenure <;> simp [Tenure.orphaned]

theorem isSome_markCursorMoved (s : State) : s.markCursorMoved.isSome = s.scrub.step.isSome := Option.isSome_map

/-- The mark does not touch the target. -/
theorem markCursorMoved_target {st : ScrubStep} (h : st ∈ s.markCursorMoved) :
    ∃ st' ∈ s.scrub.step, st'.target = st.target := by
  obtain ⟨st', hst', rfl⟩ := Option.map_eq_some_iff.mp h
  exact ⟨st', hst', rfl⟩

/-- A tenure that is not the scrubber's may give way to another that is not. -/
theorem State.ScrubberSound.change_tenure (hI : s.ScrubberSound) {seq : Sequencer} (hbefore : s.seq.tenure ≠ .scrub)
    (hafter : seq.tenure ≠ .scrub) (hstreak : seq.streak ≤ 15) : State.ScrubberSound { s with seq := seq } := by
  obtain ⟨hcredit, -, hcursor, htarget, htenure⟩ := hI
  exact ⟨hcredit, hstreak, hcursor, htarget, iff_of_false hafter fun h => hbefore (htenure.mpr h)⟩

/-- The end of a context orphans a migration tenure and no other. -/
theorem State.ScrubberSound.endContext (hI : s.ScrubberSound) : s.endContext.ScrubberSound := by
  obtain ⟨hcredit, hstreak, hcursor, htarget, htenure⟩ := hI
  exact ⟨hcredit, hstreak, hcursor, htarget, (orphaned_eq_scrub _).trans htenure⟩

theorem Move.scrubberSound (h : Move resets stores s t) (hI : s.ScrubberSound) : t.ScrubberSound := by
  obtain ⟨hcredit, hstreak, hcursor, htarget, htenure⟩ := id hI
  have hfreed (hother : s.seq.tenure ≠ .scrub) := hI.change_tenure (seq := ⟨.none, s.seq.streak⟩) hother nofun hstreak
  cases h with
  | resetFall => exact ⟨hcredit, hstreak, hcursor, htarget, iff_of_false nofun fun h => nomatch h.2⟩
  | resetRise a preserve =>
    exact ⟨Nat.zero_le _, Nat.zero_le _, State.W_pos _, nofun,
      iff_of_false nofun fun h => nomatch h.1⟩
  | port p m hreset => exact ⟨hcredit, hstreak, hcursor, htarget, by simpa only [hreset] using htenure⟩
  | expiry e credit _ hcredit' => exact ⟨show credit ≤ 4 by omega, hstreak, hcursor, htarget, htenure⟩
  | seek p hp =>
    refine ⟨hcredit, hstreak, hp, fun st hst => ?_, by simpa only [isSome_markCursorMoved] using htenure⟩
    obtain ⟨st', hst', heq⟩ := markCursorMoved_target hst
    exact heq ▸ htarget st' hst'
  | scrubDecoded st hstep =>
    refine ⟨hcredit, hstreak, hcursor, ?_, by simpa [hstep] using htenure⟩
    rintro _ ⟨⟩
    exact htarget st hstep
  | scrubDone credit cursor passes _ hcredit' hcursor' =>
    exact ⟨hcredit'.trans hcredit, hstreak, show cursor < s.W by omega, nofun,
      iff_of_false nofun fun h => nomatch h.1⟩
  | scrubReset =>
    refine ⟨Nat.zero_le _, Nat.zero_le _, State.W_pos _, fun st hst => ?_,
      by simpa only [isSome_markCursorMoved] using htenure⟩
    obtain ⟨st', hst', heq⟩ := markCursorMoved_target hst
    exact heq ▸ htarget st' hst'
  | grantHost _ hfree =>
    exact hI.change_tenure (seq := ⟨.host, min (s.seq.streak + 1) 15⟩) (by simp [hfree]) nofun (Nat.min_le_right _ _)
  | grantMigration c _ hfree => exact hI.change_tenure (by simp [hfree]) nofun (Nat.zero_le _)
  | grantScrub hrunning hfree =>
    have hlt : s.scrubTarget.1 < s.W := scrubSearch_lt hcursor
    exact ⟨hcredit, hstreak, hlt, by rintro _ ⟨⟩; exact hlt, iff_of_true rfl ⟨rfl, hrunning⟩⟩
  | grantDiag claim tenure _ hfree _ htenure' =>
    exact hI.change_tenure (seq := ⟨tenure, s.seq.streak⟩) (by simp [hfree])
      (by obtain rfl | ⟨w, rfl⟩ := htenure' <;> nofun) hstreak
  | grantFill _ hfree => exact hI.change_tenure (by simp [hfree]) nofun hstreak
  | hostDone pl htenure' => exact hfreed (by simp [htenure'])
  | fillBegins => exact ⟨Nat.zero_le _, hstreak, hcursor, htarget, htenure⟩
  | fillWordDone p htenure' => exact hfreed (by simp [htenure'])
  | diagDone htenure' => exact hfreed fun h => by simp [h, Tenure.isDiag] at htenure'
  | migrationTenureDone phase p d live htenure' => exact hfreed (by simp [htenure'])
  | contextStep c c' phase p d _ htenure' => exact hfreed (by simp [htenure'])
  | targetReplaced c p d k _ htenure' => exact hfreed (by simp [htenure'])
  | migrationEnds => exact hI.endContext
  | installed => exact hI.endContext
  | installedAgain => exact hI.endContext
  | orphaned => exact hI.endContext
  | _ => exact hI

/-- Settles O50: the config words, the timer and the credit by the moves that write them; a scrub tenure begins with its step
and ends with it. -/
theorem timebaseAndScrubberStaySound : Obligations.TimebaseAndScrubberStaySound := by
  constructor
  · intro s t hI h
    refine step_keeps_of_moves State.TimebaseSound (fun _ _ hI => hI) Move.timebaseSound ?_ h hI
    exact fun hstart hI => by cases hstart <;> exact hI
  · intro s t hI h
    refine step_keeps_of_moves State.ScrubberSound (fun _ _ hI => hI) Move.scrubberSound ?_ h hI
    exact fun hstart hI => by cases hstart <;> exact hI

end Sys2Proof.Machine

/-! ## The pool: O51 -/

namespace Sys2Proof.Machine

variable {resets : Bool} {stores : Option Nat} {s t : State}

/-! ### The pool and the table after a change of one slot -/

theorem getElem_set_fin {α : Type} (v : Vector α 64) (k j : Fin 64) (x : α) :
    (v.set k x)[j] = if k = j then x else v[j] := by
  simp only [Fin.getElem_fin, Vector.getElem_set, Fin.ext_iff]

theorem State.setSlot_pool (s : State) (k j : Fin 64) (st : SlotState) :
    (s.setSlot k st).tu.pool[j] = if k = j then st else s.tu.pool[j] :=
  getElem_set_fin _ _ _ _

theorem State.setEntry_table (s : State) (k j : Fin 64) (e : Option RepairEntry) :
    (s.setEntry k e).tu.table[j] = if k = j then e else s.tu.table[j] :=
  getElem_set_fin _ _ _ _

/-- The slot states that neither the table nor the migration accounts for. -/
def SlotState.idle : SlotState → Bool
  | .free | .bad => true
  | .reserved | .inUse => false

/-- A slot with no entry, which the migration does not hold once the change is made, may become FREE or BAD. -/
theorem State.PoolAgrees.setIdle (hI : s.PoolAgrees) {k : Fin 64} {st : SlotState} {m : Option MigrationContext}
    (hst : st.idle = true) (hentry : s.tu.table[k] = none)
    (hmigration : ∀ j, j ≠ k → (m.map (·.target) = some j ↔ s.migration.map (·.target) = some j))
    (hgone : m.map (·.target) ≠ some k) : State.PoolAgrees { s.setSlot k st with migration := m } := by
  obtain ⟨hinUse, hreserved, hdistinct, hmoves⟩ := hI
  refine ⟨fun j => ?_, fun j => ?_, hdistinct, hmoves⟩
  · rw [State.setSlot_pool]
    by_cases hj : k = j
    · subst hj
      rw [if_pos rfl]
      refine iff_of_false (by rintro rfl; cases hst) ?_
      change ¬ s.tu.table[k].isSome = true
      simp [hentry]
    · rw [if_neg hj]
      exact hinUse j
  · rw [State.setSlot_pool]
    by_cases hj : k = j
    · subst hj
      rw [if_pos rfl]
      exact iff_of_false (by rintro rfl; cases hst) hgone
    · rw [if_neg hj]
      exact (hreserved j).trans (hmigration j (Ne.symm hj)).symm

/-- The target of the active migration has no entry. -/
theorem State.PoolAgrees.target_table (hI : s.PoolAgrees) {c : MigrationContext} (hcontext : s.migration = some c) :
    s.tu.table[c.target] = none := by
  obtain ⟨hinUse, hreserved, -, -⟩ := hI
  have hpool : s.tu.pool[c.target] = .reserved := (hreserved c.target).mpr (by rw [hcontext]; rfl)
  have hnot := mt (hinUse c.target).mpr (by rw [hpool]; nofun)
  simpa using hnot

/-- A slot that is FREE or BAD has no entry, and is not the target. -/
theorem State.PoolAgrees.idle_table (hI : s.PoolAgrees) {k : Fin 64} (hidle : (s.tu.pool[k]).idle = true) :
    s.tu.table[k] = none ∧ s.migration.map (·.target) ≠ some k := by
  obtain ⟨hinUse, hreserved, -, -⟩ := hI
  refine ⟨?_, fun h => ?_⟩
  · have hnot := mt (hinUse k).mpr (fun h => by rw [h] at hidle; cases hidle)
    simpa using hnot
  · rw [(hreserved k).mpr h] at hidle
    cases hidle

/-- A slot with no entry that the migration does not hold is named by a new entry, for an address that has none. -/
theorem State.PoolAgrees.setInUse (hI : s.PoolAgrees) {k : Fin 64} {e : RepairEntry} {m : Option MigrationContext}
    (hnew : s.mappedSlot e.logical = none) (hmoves' : e.moves ≤ 15)
    (hmigration : ∀ j, j ≠ k → (m.map (·.target) = some j ↔ s.migration.map (·.target) = some j))
    (hgone : m.map (·.target) ≠ some k) :
    State.PoolAgrees { (s.setEntry k (some e)).setSlot k .inUse with migration := m } := by
  obtain ⟨hinUse, hreserved, hdistinct, hmoves⟩ := hI
  have htable (j : Fin 64) : (s.setEntry k (some e)).tu.table[j] = if k = j then some e else s.tu.table[j] :=
    State.setEntry_table _ _ _ _
  have hother := State.mappedSlot_none.mp hnew
  refine ⟨fun j => ?_, fun j => ?_, fun i j d hd d' hd' hlogical => ?_, fun j d hd => ?_⟩
  · rw [State.setSlot_pool]
    change _ ↔ (s.setEntry k (some e)).tu.table[j].isSome = true
    rw [htable]
    by_cases hj : k = j
    · simp [hj]
    · simpa [hj] using hinUse j
  · rw [State.setSlot_pool]
    by_cases hj : k = j
    · subst hj
      rw [if_pos rfl]
      exact iff_of_false nofun hgone
    · rw [if_neg hj]
      exact (hreserved j).trans (hmigration j (Ne.symm hj)).symm
  · change d ∈ (s.setEntry k (some e)).tu.table[i] at hd
    change d' ∈ (s.setEntry k (some e)).tu.table[j] at hd'
    rw [htable] at hd hd'
    by_cases hi : k = i <;> by_cases hj : k = j
    · exact hi.symm.trans hj
    · rw [if_pos hi] at hd
      rw [if_neg hj] at hd'
      cases hd
      exact absurd hlogical.symm (hother j d' hd')
    · rw [if_neg hi] at hd
      rw [if_pos hj] at hd'
      cases hd'
      exact absurd hlogical (hother i d hd)
    · rw [if_neg hi] at hd
      rw [if_neg hj] at hd'
      exact hdistinct i j d hd d' hd' hlogical
  · change d ∈ (s.setEntry k (some e)).tu.table[j] at hd
    rw [htable] at hd
    by_cases hj : k = j
    · rw [if_pos hj] at hd
      cases hd
      exact hmoves'
    · rw [if_neg hj] at hd
      exact hmoves j d hd

/-- An entry goes, and its slot becomes FREE or BAD. -/
theorem State.PoolAgrees.unmap (hI : s.PoolAgrees) {k : Fin 64} {st : SlotState} (hst : st.idle = true)
    (hinUse' : s.tu.pool[k] = .inUse) : State.PoolAgrees ((s.setEntry k none).setSlot k st) := by
  obtain ⟨hinUse, hreserved, hdistinct, hmoves⟩ := hI
  have htable (j : Fin 64) : (s.setEntry k none).tu.table[j] = if k = j then none else s.tu.table[j] :=
    State.setEntry_table _ _ _ _
  have hkept (j : Fin 64) (d : RepairEntry) (hd : d ∈ ((s.setEntry k none).setSlot k st).tu.table[j]) :
      d ∈ s.tu.table[j] := by
    change d ∈ (s.setEntry k none).tu.table[j] at hd
    rw [htable] at hd
    split at hd
    · cases hd
    · exact hd
  refine ⟨fun j => ?_, fun j => ?_, fun i j d hd d' hd' => hdistinct i j d (hkept i d hd) d' (hkept j d' hd'),
    fun j d hd => hmoves j d (hkept j d hd)⟩
  · rw [State.setSlot_pool]
    change _ ↔ (s.setEntry k none).tu.table[j].isSome = true
    rw [htable]
    by_cases hj : k = j
    · subst hj
      simp only [if_true]
      exact iff_of_false (by rintro rfl; cases hst) nofun
    · simpa [hj] using hinUse j
  · rw [State.setSlot_pool]
    by_cases hj : k = j
    · subst hj
      rw [if_pos rfl]
      refine iff_of_false (by rintro rfl; cases hst) fun h => ?_
      have hreserved' := (hreserved k).mpr h
      rw [hinUse'] at hreserved'
      cases hreserved'
    · rw [if_neg hj]
      exact hreserved j

end Sys2Proof.Machine

namespace Sys2Proof.Machine

variable {resets : Bool} {stores : Option Nat} {s t : State}

/-- A FREE slot is reserved for the target of a migration that begins, or goes on to it. -/
theorem State.PoolAgrees.reserve {k : Fin 64} {c : MigrationContext}
    (hI : State.PoolAgrees { s with migration := none }) (hfree : s.tu.pool[k] = .free) (hc : c.target = k) :
    State.PoolAgrees { s.setSlot k .reserved with migration := some c } := by
  obtain ⟨hnone, -⟩ := hI.idle_table (k := k) (by rw [hfree]; rfl)
  obtain ⟨hinUse, hreserved, hdistinct, hmoves⟩ := hI
  refine ⟨fun j => ?_, fun j => ?_, hdistinct, hmoves⟩
  · rw [State.setSlot_pool]
    by_cases hj : k = j
    · subst hj
      rw [if_pos rfl]
      refine iff_of_false nofun ?_
      change ¬ s.tu.table[k].isSome = true
      simp [show s.tu.table[k] = none from hnone]
    · rw [if_neg hj]
      exact hinUse j
  · rw [State.setSlot_pool]
    by_cases hj : k = j
    · simp [hj, hc]
    · rw [if_neg hj]
      have hnot : s.tu.pool[j] ≠ .reserved := fun h => nomatch (hreserved j).mp h
      exact iff_of_false hnot (by simpa [hc] using hj)

/-- The agreement looks only at the target of the migration. -/
theorem State.PoolAgrees.of_target {m : Option MigrationContext} (hI : s.PoolAgrees)
    (hm : m.map (·.target) = s.migration.map (·.target)) : State.PoolAgrees { s with migration := m } := by
  obtain ⟨hinUse, hreserved, hdistinct, hmoves⟩ := hI
  exact ⟨hinUse, fun j => by simpa only [hm] using hreserved j, hdistinct, hmoves⟩

/-- With the migration gone its target is no longer held. -/
theorem State.PoolAgrees.endTarget (hI : s.PoolAgrees) {c : MigrationContext} {st : SlotState}
    (hcontext : s.migration = some c) (hst : st.idle = true) :
    State.PoolAgrees { s.setSlot c.target st with migration := none } := by
  refine hI.setIdle hst (hI.target_table hcontext) (fun j hj => ?_) nofun
  simp [hcontext, Ne.symm hj]

theorem ContextStep.target {phase : MigrationPhase} {c c' : MigrationContext} (h : ContextStep phase c c') :
    c'.target = c.target := by
  cases h <;> rfl

/-- A mapped slot is in use. -/
theorem State.PoolAgrees.mapped_inUse (hI : s.PoolAgrees) {l : Nat} {k : Fin 64} (hmapped : s.mappedSlot l = some k) :
    s.tu.pool[k] = .inUse := by
  obtain ⟨e, he, -⟩ := State.mappedSlot_some hmapped
  exact (hI.1 k).mpr (by rw [he]; rfl)

/-- Once its entry is gone, an address has none. -/
theorem State.PoolAgrees.unmapped_mappedSlot (hI : s.PoolAgrees) {l : Nat} {k : Fin 64} {st : SlotState}
    (hmapped : s.mappedSlot l = some k) : ((s.setEntry k none).setSlot k st).mappedSlot l = none := by
  obtain ⟨e, he, hl⟩ := State.mappedSlot_some hmapped
  obtain ⟨-, -, hdistinct, -⟩ := hI
  refine State.mappedSlot_none.mpr fun j d hd hdl => ?_
  change (s.setEntry k none).tu.table[j] = some d at hd
  rw [State.setEntry_table] at hd
  split at hd
  · cases hd
  · next hj => exact hj (hdistinct j k d hd e he (hdl.trans hl.symm)).symm

/-- An entry that moves: unmapping the old slot and naming the new one, in either order. -/
theorem State.moveEntry_eq (s : State) {old k : Fin 64} (e : RepairEntry) (hne : k ≠ old) :
    (((s.setEntry old none).setEntry k (some e)).setSlot k .inUse).setSlot old .bad =
      ((((s.setEntry old none).setSlot old .bad).setEntry k (some e)).setSlot k .inUse) := by
  simp only [State.setSlot, State.setEntry]
  rw [Vector.set_comm _ _ (Fin.val_ne_of_ne hne)]

theorem State.PoolAgrees.install (hI : s.PoolAgrees) {c : MigrationContext} {e : RepairEntry}
    (hcontext : s.migration = some c) (hnew : s.mappedSlot e.logical = none) (hmoves : e.moves ≤ 15) :
    State.PoolAgrees ((s.setEntry c.target (some e)).setSlot c.target .inUse).endContext :=
  hI.setInUse (m := none) hnew hmoves (fun j hj => by simp [hcontext, Ne.symm hj]) nofun

/-- The target of the active migration is not a slot that an entry names. -/
theorem State.PoolAgrees.target_ne_mapped (hI : s.PoolAgrees) {c : MigrationContext} {l : Nat} {k : Fin 64}
    (hcontext : s.migration = some c) (hmapped : s.mappedSlot l = some k) : c.target ≠ k := by
  rintro rfl
  obtain ⟨e, he, -⟩ := State.mappedSlot_some hmapped
  rw [hI.target_table hcontext] at he
  cases he

theorem Move.poolAgrees (h : Move resets stores s t) (hI : s.PoolAgrees) : t.PoolAgrees := by
  cases h with
  | resetRise a preserve =>
    simp [State.PoolAgrees, State.riseWith, State.afterReset, TranslationUnit.reset]
  | dirtied pl i c _ _ _ hcontext => exact hI.of_target (by rw [hcontext]; rfl)
  | contextStep c c' phase p d hcontext _ hstep => exact hI.of_target (by simp [hcontext, hstep.target])
  | targetReplaced c p d k hcontext _ hfree => exact (hI.endTarget hcontext (st := .bad) rfl).reserve hfree rfl
  | migrationEnds c st hcontext hst => exact hI.endTarget hcontext (by obtain rfl | rfl := hst <;> rfl)
  | installed c hcontext hunmapped => exact hI.install hcontext hunmapped (Nat.le_add_left 1 14)
  | installedAgain c old moves hcontext hmapped hmoves =>
    have hgone := hI.unmap (k := old) (st := .bad) rfl (hI.mapped_inUse hmapped)
    rw [State.moveEntry_eq _ _ (hI.target_ne_mapped hcontext hmapped)]
    exact hgone.install hcontext (hI.unmapped_mappedSlot hmapped) hmoves
  | mapped l k _ hunmapped hfree =>
    obtain ⟨-, hgone⟩ := hI.idle_table (k := k) (by rw [hfree]; rfl)
    exact hI.setInUse (m := s.migration) hunmapped (Nat.zero_le _) (fun _ _ => Iff.rfl) hgone
  | unmapped l k hmapped => exact hI.unmap rfl (hI.mapped_inUse hmapped)
  | slotMoved k st hstates =>
    obtain ⟨hnone, hgone⟩ := hI.idle_table (k := k) (by obtain ⟨h, -⟩ | ⟨h, -⟩ := hstates <;> rw [h] <;> rfl)
    exact hI.setIdle (m := s.migration) (by obtain ⟨-, rfl⟩ | ⟨-, rfl⟩ := hstates <;> rfl) hnone (fun _ _ => Iff.rfl)
      hgone
  | orphaned hmigration => exact hI.of_target (m := none) (by rw [hmigration])
  | _ => exact hI

theorem StartMove.poolAgrees (h : StartMove s t) (hI : s.PoolAgrees) : t.PoolAgrees := by
  cases h with
  | withSlot r rest k _ hmigration _ hfree => exact (hI.of_target (m := none) (by rw [hmigration])).reserve hfree rfl
  | withoutSlot => exact hI

/-- Settles O51: a slot is taken, named, released or retired by moves that change the table and the migration with it. -/
theorem poolKeepsAgreeing : Obligations.PoolKeepsAgreeing := by
  intro s t hI h
  exact step_keeps_of_moves State.PoolAgrees (fun _ _ hI => hI) Move.poolAgrees StartMove.poolAgrees h hI

end Sys2Proof.Machine

/-! ## The Retirement Queue and the Watch List: O53 -/

namespace Sys2Proof.Machine

variable {resets : Bool} {stores : Option Nat} {s t : State}

theorem queuedForRetirement_iff {l : Nat} : s.queuedForRetirement l = true ↔ l ∈ s.retq.map (·.logical) := by
  simp [State.queuedForRetirement]

theorem not_queuedForRetirement_iff {l : Nat} : s.queuedForRetirement l = false ↔ l ∉ s.retq.map (·.logical) := by
  rw [← queuedForRetirement_iff, Bool.not_eq_true]

theorem migrating_iff {l : Nat} : s.migrating l = true ↔ ∃ c ∈ s.migration, c.logical = l := by
  unfold State.migrating
  cases s.migration <;> simp

theorem not_migrating_iff {l : Nat} : s.migrating l = false ↔ ∀ c ∈ s.migration, c.logical ≠ l := by
  unfold State.migrating
  cases s.migration <;> simp

theorem ContextStep.logical {phase : MigrationPhase} {c c' : MigrationContext} (h : ContextStep phase c c') :
    c'.logical = c.logical := by
  cases h <;> rfl

/-- Soundness of the Retirement Queue looks only at the migration's logical address. -/
theorem State.RetirementSound.of_logical {c c' : MigrationContext} (hI : s.RetirementSound)
    (hcontext : s.migration = some c) (hlogical : c'.logical = c.logical) :
    State.RetirementSound { s with migration := some c' } := by
  obtain ⟨hlength, hnodup, hactive⟩ := hI
  refine ⟨hlength, hnodup, ?_⟩
  rintro _ ⟨⟩
  exact hlogical ▸ hactive c hcontext

theorem State.RetirementSound.no_migration (hI : s.RetirementSound) :
    State.RetirementSound { s with migration := none } := by
  obtain ⟨hlength, hnodup, -⟩ := hI
  exact ⟨hlength, hnodup, nofun⟩

theorem Move.retirementSound (h : Move resets stores s t) (hI : s.RetirementSound) : t.RetirementSound := by
  cases h with
  | resetRise => exact ⟨Nat.zero_le _, List.nodup_nil, nofun⟩
  | dirtied pl i c _ _ _ hcontext => exact hI.of_logical hcontext rfl
  | contextStep c c' _ _ _ hcontext _ hstep => exact hI.of_logical hcontext hstep.logical
  | targetReplaced c _ _ _ hcontext => exact hI.of_logical hcontext rfl
  | migrationEnds => exact hI.no_migration
  | installed => exact hI.no_migration
  | installedAgain => exact hI.no_migration
  | orphaned => exact hI.no_migration
  | retirementQueued l origin hspace hmigrating hqueued =>
    obtain ⟨hlength, hnodup, hactive⟩ := hI
    refine ⟨by simpa using hspace, ?_, fun c hc => ?_⟩
    · rw [List.map_append, List.map_singleton, ← List.concat_eq_append]
      exact hnodup.concat (not_queuedForRetirement_iff.mp hqueued)
    · have hne := not_migrating_iff.mp hmigrating c hc
      simpa [hne] using hactive c hc
  | retirementsCleared => exact ⟨Nat.zero_le _, List.nodup_nil, fun _ _ => List.not_mem_nil⟩
  | _ => exact hI

theorem StartMove.retirementSound (h : StartMove s t) (hI : s.RetirementSound) : t.RetirementSound := by
  obtain ⟨hlength, hnodup, hactive⟩ := hI
  cases h with
  | withSlot r rest k hretq =>
    rw [hretq] at hlength hnodup
    refine ⟨(Nat.le_succ _).trans hlength, (List.nodup_cons.mp hnodup).2, ?_⟩
    rintro _ ⟨⟩
    exact (List.nodup_cons.mp hnodup).1
  | withoutSlot r rest hretq hmigration =>
    rw [hretq] at hlength hnodup
    refine ⟨(Nat.le_succ _).trans hlength, (List.nodup_cons.mp hnodup).2, fun c hc => ?_⟩
    cases hmigration.symm.trans hc

/-- A list soundness that a sublist inherits. -/
theorem State.WatchSound.sublist (hI : s.WatchSound) {w : List WatchEntry} (hw : w.Sublist s.watch) :
    State.WatchSound { s with watch := w } := by
  obtain ⟨hlength, hnodup, hcounts⟩ := hI
  exact ⟨hw.length_le.trans hlength, (hw.map _).nodup hnodup, fun e he => hcounts e (hw.subset he)⟩

/-- Changes of the states and counts within the bounds keep the list sound. -/
theorem State.WatchSound.map (hI : s.WatchSound) {f : WatchEntry → WatchEntry} (hphysical : ∀ e, (f e).physical = e.physical)
    (hcount : ∀ e : WatchEntry, 1 ≤ e.count ∧ e.count ≤ 15 → 1 ≤ (f e).count ∧ (f e).count ≤ 15) :
    State.WatchSound { s with watch := s.watch.map f } := by
  obtain ⟨hlength, hnodup, hcounts⟩ := hI
  refine ⟨by simpa using hlength, ?_, fun e he => ?_⟩
  · rw [List.map_map]
    rwa [show (·.physical) ∘ f = (·.physical) from funext hphysical]
  · obtain ⟨e', he', rfl⟩ := List.mem_map.mp he
    exact hcount e' (hcounts e' he')

theorem State.WatchSound.setWatch (hI : s.WatchSound) (p : Nat) (st : WatchState) : (s.setWatch p st).WatchSound := by
  refine hI.map (fun e => ?_) (fun e he => ?_)
  · split <;> rfl
  · split <;> exact he

theorem Move.watchSound (h : Move resets stores s t) (hI : s.WatchSound) : t.WatchSound := by
  cases h with
  | resetRise => exact ⟨Nat.zero_le _, List.nodup_nil, nofun⟩
  | watchRemoved w hw => exact hI.sublist hw
  | watchInserted w p hw hspace hnew =>
    obtain ⟨hlength, -, -⟩ := id hI
    obtain ⟨-, hnodup, hcounts⟩ := hI.sublist hw
    refine ⟨by simp only [List.length_append, List.length_singleton]; omega, ?_, fun e he => ?_⟩
    · rw [List.map_append, List.map_singleton, ← List.concat_eq_append]
      exact hnodup.concat (by simpa using hnew)
    · obtain he | rfl : e ∈ w ∨ e = _ := by simpa using he
      · exact hcounts e he
      · exact ⟨le_rfl, Nat.le_add_left 1 14⟩
  | watchCounted p =>
    refine hI.map (fun e => ?_) (fun e he => ?_)
    · split <;> rfl
    · split
      · exact ⟨by simp, Nat.min_le_right _ _⟩
      · exact he
  | watchState p st => exact hI.setWatch p st
  | watchReleased =>
    refine hI.map (fun e => ?_) (fun e he => ?_)
    · split <;> rfl
    · split <;> exact he
  | _ => exact hI

theorem StartMove.watchSound (h : StartMove s t) (hI : s.WatchSound) : t.WatchSound := by
  cases h with
  | withSlot => exact State.WatchSound.setWatch hI _ _
  | withoutSlot => exact State.WatchSound.setWatch hI _ _

/-- Settles O53: the two lists keep their bounds and stay without repetition, each by its own moves. -/
theorem accountingStaysSound : Obligations.AccountingStaysSound := by
  intro s t hI h
  refine step_keeps_of_moves (fun u => u.RetirementSound ∧ u.WatchSound) (fun _ _ hI => hI) (fun hmove hI => ?_)
    (fun hstart hI => ?_) h hI
  · exact ⟨hmove.retirementSound hI.1, hmove.watchSound hI.2⟩
  · exact ⟨hstart.retirementSound hI.1, hstart.watchSound hI.2⟩

end Sys2Proof.Machine

/-! ## The request queue: laws of its places, and O54 -/

namespace Sys2Proof.Machine

variable {resets : Bool} {stores : Option Nat} {s t : State}

/-! ### The order of the places (R145) -/

theorem queueOrdered_append_done {ahead q : List Place} (hahead : ∀ x ∈ ahead, x.state = .done) :
    queueOrdered (ahead ++ q) = queueOrdered q := by
  unfold queueOrdered
  rw [List.dropWhile_append_of_pos (by simpa using hahead)]

theorem queueOrdered_waiting {q : List Place} (hq : ∀ x ∈ q, x.state = .waiting) (hhead : ∀ p ∈ q.head?, p.refusal = none) :
    queueOrdered q = true := by
  cases q with
  | nil => rfl
  | cons p rest =>
    obtain ⟨hp, hrest⟩ := List.forall_mem_cons.mp hq
    simp only [queueOrdered, List.dropWhile_cons, hp]
    simpa [hhead p rfl] using hrest

/-- An ordered queue is its DONE places, and then nothing, or a first place that is not DONE, with WAITING ones behind. -/
theorem queueOrdered_cases {q : List Place} (h : queueOrdered q = true) :
    (∀ x ∈ q, x.state = .done) ∨
    ∃ ahead p rest, q = ahead ++ p :: rest ∧ (∀ x ∈ ahead, x.state = .done) ∧ p.state ≠ .done ∧ p.refusal = none ∧
      ∀ x ∈ rest, x.state = .waiting := by
  have hsplit := List.takeWhile_append_dropWhile (p := fun p : Place => decide (p.state = .done)) (l := q)
  have hahead : ∀ x ∈ q.takeWhile (fun p : Place => decide (p.state = .done)), x.state = .done := by
    intro x hx
    simpa using List.mem_takeWhile_imp hx
  unfold queueOrdered at h
  split at h
  · next hnil =>
    rw [hnil, List.append_nil] at hsplit
    exact .inl (hsplit ▸ hahead)
  · next p rest hcons =>
    obtain ⟨hrefusal, hrest⟩ := Bool.and_eq_true _ _ ▸ h
    refine .inr ⟨_, p, rest, (hcons ▸ hsplit).symm, hahead, ?_, by simpa using hrefusal, by simpa using hrest⟩
    have hhead := List.head?_dropWhile_not (fun p : Place => decide (p.state = .done)) q
    rw [hcons] at hhead
    simpa using hhead

/-! ### Refused places become DONE (R145) -/

theorem settlePlaces_append_done {ahead : List Place} (hahead : ∀ x ∈ ahead, x.state = .done) (q : List Place) :
    settlePlaces (ahead ++ q) = ahead ++ settlePlaces q := by
  induction ahead with
  | nil => rfl
  | cons p ahead ih =>
    obtain ⟨hp, hahead⟩ := List.forall_mem_cons.mp hahead
    rw [List.cons_append, settlePlaces, if_pos hp, ih hahead, List.cons_append]

theorem settlePlaces_cons_refused {p : Place} (hp : p.state = .waiting) (hrefused : p.refusal.isSome = true)
    (rest : List Place) : settlePlaces (p :: rest) = { p with state := .done } :: settlePlaces rest := by
  rw [settlePlaces, if_neg (by simp [hp]), if_pos (by simp [hp, hrefused])]

theorem settlePlaces_append_refused {refused : List Place}
    (h : ∀ x ∈ refused, x.state = .waiting ∧ x.refusal.isSome = true) (q : List Place) :
    settlePlaces (refused ++ q) = refused.map (fun x => { x with state := .done }) ++ settlePlaces q := by
  induction refused with
  | nil => rfl
  | cons p refused ih =>
    obtain ⟨⟨hp, hrefusal⟩, h⟩ := List.forall_mem_cons.mp h
    rw [List.cons_append, settlePlaces_cons_refused hp hrefusal, ih h, List.map_cons, List.cons_append]

/-- A place that is not DONE and not refused stops the settling. -/
theorem settlePlaces_cons_sound {p : Place} (hp : p.state ≠ .done) (hrefusal : p.refusal = none) (rest : List Place) :
    settlePlaces (p :: rest) = p :: rest := by
  rw [settlePlaces, if_neg hp, if_neg (by simp [hrefusal])]

/-- Each place of the settled queue is one of the queue's, or a refused WAITING one of them made DONE. -/
theorem mem_settlePlaces {q : List Place} {x : Place} (h : x ∈ settlePlaces q) :
    x ∈ q ∨ ∃ p ∈ q, p.state = .waiting ∧ p.refusal.isSome = true ∧ x = { p with state := .done } := by
  induction q with
  | nil => cases h
  | cons p rest ih =>
    unfold settlePlaces at h
    split_ifs at h with hdone hrefused
    · obtain rfl | h := List.mem_cons.mp h
      · exact .inl List.mem_cons_self
      · exact (ih h).imp (List.mem_cons_of_mem _) fun ⟨p', hp', hrest⟩ => ⟨p', List.mem_cons_of_mem _ hp', hrest⟩
    · simp only [Bool.and_eq_true, decide_eq_true_eq] at hrefused
      obtain rfl | h := List.mem_cons.mp h
      · exact .inr ⟨p, List.mem_cons_self, hrefused.1, hrefused.2, rfl⟩
      · exact (ih h).imp (List.mem_cons_of_mem _) fun ⟨p', hp', hrest⟩ => ⟨p', List.mem_cons_of_mem _ hp', hrest⟩
    · exact .inl h

theorem length_settlePlaces (q : List Place) : (settlePlaces q).length = q.length := by
  induction q with
  | nil => rfl
  | cons p rest ih =>
    unfold settlePlaces
    split_ifs <;> simp [ih]

/-- The place in tenure is not among those that settle. -/
theorem find?_inTenure_settlePlaces (q : List Place) :
    (settlePlaces q).find? (fun p => decide (p.state = .inTenure)) = q.find? (fun p => decide (p.state = .inTenure)) := by
  induction q with
  | nil => rfl
  | cons p rest ih =>
    unfold settlePlaces
    split_ifs with hdone hrefused
    · simp [hdone, ih]
    · simp only [Bool.and_eq_true, decide_eq_true_eq] at hrefused
      simp [hrefused.1, ih]
    · rfl

/-- WAITING places in order once they are settled: the refused ones ahead are DONE. -/
theorem queueOrdered_settle_waiting {q : List Place} (hq : ∀ x ∈ q, x.state = .waiting) :
    queueOrdered (settlePlaces q) = true := by
  induction q with
  | nil => rfl
  | cons p rest ih =>
    obtain ⟨hp, hrest⟩ := List.forall_mem_cons.mp hq
    cases hrefusal : p.refusal with
    | none =>
      rw [settlePlaces_cons_sound (by simp [hp]) hrefusal]
      exact queueOrdered_waiting hq (by simpa using hrefusal)
    | some why =>
      rw [settlePlaces_cons_refused hp (by simp [hrefusal])]
      exact (queueOrdered_append_done (ahead := [{ p with state := .done }]) (by simp)).trans (ih hrest)

/-- A WAITING place at the tail of an ordered queue settles into an ordered queue. -/
theorem queueOrdered_settle_tail {q : List Place} {p : Place} (hq : queueOrdered q = true) (hp : p.state = .waiting) :
    queueOrdered (settlePlaces (q ++ [p])) = true := by
  obtain hdone | ⟨ahead, b, rest, rfl, hahead, hb, hrefusal, hrest⟩ := queueOrdered_cases hq
  · rw [settlePlaces_append_done hdone, queueOrdered_append_done hdone]
    exact queueOrdered_settle_waiting (by simpa using hp)
  · rw [queueOrdered_append_done hahead] at hq
    rw [List.append_assoc, settlePlaces_append_done hahead, List.cons_append, settlePlaces_cons_sound hb hrefusal,
      queueOrdered_append_done hahead]
    simp only [queueOrdered, List.dropWhile_cons, decide_eq_false hb]
    simpa [or_imp, forall_and, hp, hrefusal] using hrest

/-! ### The first place in a state -/

theorem moveFirst_append {src dst : PlaceState} {ahead : List Place} {p : Place} {rest : List Place}
    (hahead : ∀ x ∈ ahead, x.state ≠ src) (hp : p.state = src) :
    moveFirst src dst (ahead ++ p :: rest) = ahead ++ { p with state := dst } :: rest := by
  induction ahead with
  | nil => rw [List.nil_append, moveFirst, if_pos hp, List.nil_append]
  | cons x ahead ih =>
    obtain ⟨hx, hahead⟩ := List.forall_mem_cons.mp hahead
    rw [List.cons_append, moveFirst, if_neg hx, ih hahead, List.cons_append]

theorem find?_state_append {st : PlaceState} {ahead : List Place} {p : Place} {rest : List Place}
    (hahead : ∀ x ∈ ahead, x.state ≠ st) (hp : p.state = st) :
    (ahead ++ p :: rest).find? (fun x => decide (x.state = st)) = some p := by
  rw [List.find?_append, List.find?_eq_none.mpr (by simpa using hahead), List.find?_cons_of_pos (by simpa using hp)]
  rfl

/-- The results of the one place in tenure are replaced, and no other place's. -/
theorem setResults_append {ahead : List Place} {p : Place} {rest : List Place} (rs : List BeatResult)
    (hqueue : s.queue = ahead ++ p :: rest) (hahead : ∀ x ∈ ahead, x.state ≠ .inTenure) (hp : p.state = .inTenure)
    (hrest : ∀ x ∈ rest, x.state ≠ .inTenure) :
    (s.setResults rs).queue = ahead ++ { p with results := rs } :: rest := by
  have hkept (q : List Place) (hq : ∀ x ∈ q, x.state ≠ .inTenure) :
      q.map (fun p => if p.state = .inTenure then { p with results := rs } else p) = q :=
    (List.map_congr_left fun x hx => if_neg (hq x hx)).trans (List.map_id' q)
  rw [State.setResults_queue, hqueue, List.map_append, List.map_cons, if_pos hp, hkept ahead hahead, hkept rest hrest]

/-- An ordered queue with a place in tenure: the DONE places, that place, and WAITING ones behind it. -/
theorem queueOrdered_inTenure {pl : Place} (hordered : queueOrdered s.queue = true)
    (hplace : s.placeInTenure = some pl) :
    ∃ ahead rest, s.queue = ahead ++ pl :: rest ∧ (∀ x ∈ ahead, x.state = .done) ∧ pl.refusal = none ∧
      ∀ x ∈ rest, x.state = .waiting := by
  have hpl := placeInTenure_state hplace
  have hmem : pl ∈ s.queue := List.mem_of_find?_eq_some hplace
  obtain hdone | ⟨ahead, p, rest, hqueue, hahead, -, hrefusal, hrest⟩ := queueOrdered_cases hordered
  · simp [hdone pl hmem] at hpl
  · rw [hqueue] at hmem
    obtain hmem | rfl | hmem : pl ∈ ahead ∨ pl = p ∨ pl ∈ rest := by simpa using hmem
    · simp [hahead pl hmem] at hpl
    · exact ⟨ahead, rest, hqueue, hahead, hrefusal, hrest⟩
    · simp [hrest pl hmem] at hpl

/-- In an ordered queue with no place in tenure, the oldest WAITING place is the first that is not DONE. -/
theorem queueOrdered_oldestWaiting {p : Place} (hordered : queueOrdered s.queue = true) (hnone : s.placeInTenure = none)
    (hwaiting : s.oldestWaiting = some p) :
    ∃ ahead rest, s.queue = ahead ++ p :: rest ∧ (∀ x ∈ ahead, x.state = .done) ∧ p.state = .waiting ∧
      p.refusal = none ∧ ∀ x ∈ rest, x.state = .waiting := by
  have hp : p.state = .waiting := by simpa using List.find?_some hwaiting
  have hmem : p ∈ s.queue := List.mem_of_find?_eq_some hwaiting
  obtain hdone | ⟨ahead, b, rest, hqueue, hahead, hb, hrefusal, hrest⟩ := queueOrdered_cases hordered
  · simp [hdone p hmem] at hp
  · have hbwaiting : b.state = .waiting := by
      have hnot : b.state ≠ .inTenure := by
        simpa using List.find?_eq_none.mp hnone b (by rw [hqueue]; simp)
      cases hstate : b.state with
      | waiting => rfl
      | inTenure => exact absurd hstate hnot
      | done => exact absurd hstate hb
    have hfound := find?_state_append (rest := rest) (fun x hx => by rw [hahead x hx]; nofun) hbwaiting
    rw [State.oldestWaiting, hqueue, hfound] at hwaiting
    cases hwaiting
    exact ⟨ahead, rest, hqueue, hahead, hbwaiting, hrefusal, hrest⟩

/-! ### Sound places (R141, R143, R144) -/

theorem Place.sound_refused {h : Nat} {p : Place} {why : RefusalReason} (hrefusal : p.refusal = some why) :
    p.sound h = true ↔ p.state ≠ .inTenure ∧ p.results = refusedResults p.request := by
  simp [Place.sound, hrefusal]

/-- The part of a sound place's request that its state does not touch. -/
def Request.sound (r : Request) (h : Nat) : Prop :=
  r.address.toNat + r.beatCount ≤ h ∧ (r.kind = .read → r.beats = []) ∧
    (r.kind = .write → r.beats.length = r.beatCount)

theorem Place.sound_accepted {h : Nat} {p : Place} (hrefusal : p.refusal = none) :
    p.sound h = true ↔ p.request.sound h ∧ (p.state = .waiting → p.results = []) ∧
      (p.state = .inTenure → p.results.length ≤ p.request.beatCount) ∧
      (p.state = .done → p.results.length = p.request.beatCount) := by
  obtain ⟨r, st, refusal, results⟩ := p
  obtain rfl : refusal = none := hrefusal
  cases hkind : r.kind <;> cases st <;> simp [Place.sound, Request.sound, hkind, and_assoc]

theorem Place.sound_inTenure {h : Nat} {p : Place} (hsound : p.sound h = true) (hp : p.state = .inTenure) :
    p.refusal = none ∧ p.request.sound h ∧ p.results.length ≤ p.request.beatCount := by
  cases hrefusal : p.refusal with
  | some why => exact absurd hp ((Place.sound_refused hrefusal).mp hsound).1
  | none =>
    obtain ⟨hrequest, -, hlength, -⟩ := (Place.sound_accepted hrefusal).mp hsound
    exact ⟨rfl, hrequest, hlength hp⟩

/-- A sound request has no more beats than its length. -/
theorem Request.sound.beats_le {r : Request} {h : Nat} (hr : r.sound h) : r.beats.length ≤ r.beatCount := by
  obtain ⟨-, hread, hwrite⟩ := hr
  cases hkind : r.kind with
  | read => simp [hread hkind]
  | write => exact (hwrite hkind).le

theorem beatsOfLength_pos (code : BitVec 2) : 1 ≤ beatsOfLength code := by
  unfold beatsOfLength
  split <;> decide

theorem length_beats_of_write (raw : RawRequest) (hkind : (decodeRequest raw).kind = .write)
    (hlength : (decodeRequest raw).lengthCode ≠ 3) :
    (decodeRequest raw).beats.length = (decodeRequest raw).beatCount := by
  have hle : beatsOfLength (headerLength raw.header) ≤ 4 := by
    unfold beatsOfLength
    split <;> decide
  change headerKind raw.header = .write at hkind
  change headerLength raw.header ≠ 3 at hlength
  simp only [decodeRequest, hkind, if_neg hlength, Request.beatCount, List.length_map, List.length_take]
  exact Nat.min_eq_left hle

/-- A request that passes the checks at its take is sound (R142, R143). -/
theorem decodeRequest_sound {raw : RawRequest} {h : Nat} (haccepted : (decodeRequest raw).refusal h = none) :
    (decodeRequest raw).sound h := by
  unfold Request.refusal at haccepted
  split_ifs at haccepted with hmalformed hrange
  simp only [Request.malformed, Bool.or_eq_true, decide_eq_true_eq, not_or] at hmalformed
  have hpos : 1 ≤ (decodeRequest raw).beatCount := beatsOfLength_pos _
  refine ⟨by omega, fun hread => ?_, fun hwrite => length_beats_of_write raw hwrite hmalformed.1⟩
  change headerKind raw.header = .read at hread
  simp only [decodeRequest, hread]

theorem newPlace_state (r : Request) (refusal : Option RefusalReason) : (newPlace r refusal).state = .waiting := by
  cases refusal <;> rfl

/-- The place that a request gets is sound. -/
theorem newPlace_sound (raw : RawRequest) (h : Nat) :
    (newPlace (decodeRequest raw) ((decodeRequest raw).refusal h)).sound h = true := by
  cases hrefusal : (decodeRequest raw).refusal h with
  | none =>
    exact (Place.sound_accepted (p := ⟨decodeRequest raw, .waiting, none, []⟩) rfl).mpr
      ⟨decodeRequest_sound hrefusal, fun _ => rfl, nofun, nofun⟩
  | some why =>
    exact (Place.sound_refused (p := ⟨decodeRequest raw, .waiting, some why, refusedResults _⟩) rfl).mpr ⟨nofun, rfl⟩

theorem settlePlaces_sound {h : Nat} {q : List Place} (hq : q.all (Place.sound h) = true) :
    (settlePlaces q).all (Place.sound h) = true := by
  rw [List.all_eq_true] at hq ⊢
  intro x hx
  obtain hx | ⟨p, hp, -, hrefused, rfl⟩ := mem_settlePlaces hx
  · exact hq x hx
  · obtain ⟨why, hwhy⟩ := Option.isSome_iff_exists.mp hrefused
    exact (Place.sound_refused (p := { p with state := .done }) hwhy).mpr ⟨by simp, ((Place.sound_refused hwhy).mp (hq p hp)).2⟩

/-! ### The invariant (R141, R145, R150) -/

theorem orphaned_eq_host (tenure : Tenure) : tenure.orphaned = .host ↔ tenure = .host := by
  cases tenure <;> simp [Tenure.orphaned]

/-- A tenure that is not the host's may give way to another that is not. -/
theorem State.QueueSound.change_tenure (hI : s.QueueSound) {seq : Sequencer} (hbefore : s.seq.tenure ≠ .host)
    (hafter : seq.tenure ≠ .host) : State.QueueSound { s with seq := seq } := by
  obtain ⟨hlength, hsound, hordered, htenure, hempty⟩ := hI
  exact ⟨hlength, hsound, hordered, iff_of_false hafter fun h => hbefore (htenure.mpr h), hempty⟩

theorem State.QueueSound.endContext (hI : s.QueueSound) : s.endContext.QueueSound := by
  obtain ⟨hlength, hsound, hordered, htenure, hempty⟩ := hI
  exact ⟨hlength, hsound, hordered, (orphaned_eq_host _).trans htenure, hempty⟩

theorem State.QueueSound.placeInTenure_none (hI : s.QueueSound) (htenure : s.seq.tenure ≠ .host) :
    s.placeInTenure = none := by
  obtain ⟨-, -, -, hiff, -⟩ := hI
  simpa using mt hiff.mpr htenure

/-- An empty queue with no host tenure is sound in every lifecycle state. -/
theorem State.QueueSound.of_empty (hqueue : s.queue = []) (htenure : s.seq.tenure ≠ .host) : s.QueueSound := by
  simp [State.QueueSound, State.placeInTenure, queueOrdered, hqueue, htenure]

/-- The lifecycle may change where the queue is empty, or to a state that may hold requests. -/
theorem State.QueueSound.change_lifecycle (hI : s.QueueSound) {l : Lifecycle}
    (hl : s.queue = [] ∨ l.isFilling = false ∧ l ≠ .hold) : State.QueueSound { s with lifecycle := l } := by
  obtain ⟨hlength, hsound, hordered, htenure, -⟩ := hI
  refine ⟨hlength, hsound, hordered, htenure, fun h => ?_⟩
  obtain hempty | ⟨hfilling, hhold⟩ := hl
  · exact hempty
  · obtain h | h := h
    · exact absurd h hhold
    · exact absurd h (by simp [hfilling])

theorem State.QueueSound.requestTaken (hI : s.QueueSound) (raw : RawRequest) (htake : s.canTake = true) :
    State.QueueSound { s with
      queue := settlePlaces (s.queue ++ [newPlace (decodeRequest raw) ((decodeRequest raw).refusal s.H)]) } := by
  obtain ⟨-, hsound, hordered, htenure, -⟩ := hI
  simp only [State.canTake, Bool.and_eq_true, decide_eq_true_eq, Config.queuePlaces] at htake
  obtain ⟨hopened, hspace⟩ := htake
  have hwaiting := newPlace_state (decodeRequest raw) ((decodeRequest raw).refusal s.H)
  refine ⟨?_, settlePlaces_sound ?_, queueOrdered_settle_tail hordered hwaiting, ?_, ?_⟩
  · change (settlePlaces _).length ≤ 8
    rw [length_settlePlaces, List.length_append, List.length_singleton]
    exact of_decide_eq_true hspace
  · change (s.queue ++ [_]).all (Place.sound s.H) = true
    rw [List.all_append, hsound, List.all_cons, newPlace_sound]
    rfl
  · unfold State.placeInTenure at htenure ⊢
    rw [find?_inTenure_settlePlaces, List.find?_append]
    simpa [hwaiting] using htenure
  · rw [hopened]
    simp [Lifecycle.isFilling]

theorem State.QueueSound.headFreed (hI : s.QueueSound) {p : Place} {rest : List Place} (hqueue : s.queue = p :: rest)
    (hdone : p.state = .done) : State.QueueSound { s with queue := rest } := by
  obtain ⟨hlength, hsound, hordered, htenure, hempty⟩ := hI
  rw [hqueue] at hlength hsound hordered
  unfold State.placeInTenure at htenure
  rw [hqueue, List.find?_cons_of_neg (by simp [hdone])] at htenure
  refine ⟨(Nat.le_succ _).trans hlength, (Bool.and_eq_true _ _ ▸ hsound).2, ?_, htenure, fun h => ?_⟩
  · rwa [← List.singleton_append, queueOrdered_append_done (by simpa using hdone)] at hordered
  · exact absurd (hqueue ▸ hempty h) (List.cons_ne_nil _ _)

/-- A grant takes the oldest WAITING place, the first that is not DONE, into tenure. -/
theorem State.QueueSound.grantHost (hI : s.QueueSound) (hfree : s.seq.tenure = .none)
    (hlifecycle : s.lifecycle.isFilling = false ∧ s.lifecycle ≠ .hold) {p : Place}
    (hwaiting : s.oldestWaiting = some p) :
    s.grantHost.QueueSound ∧ s.grantHost.placeInTenure = some { p with state := .inTenure } := by
  have hnone := hI.placeInTenure_none (by simp [hfree])
  obtain ⟨hlength, hsound, hordered, -, -⟩ := hI
  obtain ⟨ahead, rest, hqueue, hahead, hp, hrefusal, hrest⟩ := queueOrdered_oldestWaiting hordered hnone hwaiting
  have hmoved : s.grantHost.queue = ahead ++ { p with state := .inTenure } :: rest := by
    change moveFirst .waiting .inTenure s.queue = _
    rw [hqueue, moveFirst_append (fun x hx => by rw [hahead x hx]; nofun) hp]
  have hplace : s.grantHost.placeInTenure = some { p with state := .inTenure } := by
    unfold State.placeInTenure
    rw [hmoved, find?_state_append (p := { p with state := .inTenure }) (fun x hx => by rw [hahead x hx]; nofun) rfl]
  rw [hqueue] at hlength hsound
  simp only [List.all_append, List.all_cons, Bool.and_eq_true] at hsound
  obtain ⟨hsoundAhead, hsoundP, hsoundRest⟩ := hsound
  refine ⟨⟨by rw [hmoved]; simpa using hlength, ?_, ?_, iff_of_true rfl (by rw [hplace]; rfl), fun h => ?_⟩, hplace⟩
  · rw [hmoved]
    simp only [List.all_append, List.all_cons, Bool.and_eq_true]
    obtain ⟨hrequest, hresults, -⟩ := (Place.sound_accepted hrefusal).mp hsoundP
    refine ⟨hsoundAhead, (Place.sound_accepted (p := { p with state := .inTenure }) hrefusal).mpr
      ⟨hrequest, nofun, fun _ => ?_, nofun⟩, hsoundRest⟩
    simp [hresults hp]
  · rw [hmoved, queueOrdered_append_done hahead]
    simpa [queueOrdered, hrefusal] using hrest
  · exact h.elim (fun h => absurd h hlifecycle.2) fun h => absurd h (by simp [State.grantHost, hlifecycle.1])

theorem State.QueueSound.results (hI : s.QueueSound) {pl : Place} {rs : List BeatResult}
    (hplace : s.placeInTenure = some pl)
    (hlength : rs.length ≤ pl.request.beatCount ∨ rs.length ≤ pl.request.beats.length) :
    (s.setResults rs).QueueSound := by
  obtain ⟨hlength', hsound, hordered, htenure, hempty⟩ := hI
  have hpl := placeInTenure_state hplace
  obtain ⟨ahead, rest, hqueue, hahead, -, hrest⟩ := queueOrdered_inTenure hordered hplace
  have hupdated := setResults_append rs hqueue (fun x hx => by rw [hahead x hx]; nofun) hpl
    (fun x hx => by rw [hrest x hx]; nofun)
  rw [hqueue] at hlength' hsound hordered
  simp only [List.all_append, List.all_cons, Bool.and_eq_true] at hsound
  obtain ⟨hsoundAhead, hsoundPl, hsoundRest⟩ := hsound
  obtain ⟨hrefusal, hrequest, -⟩ := Place.sound_inTenure hsoundPl hpl
  have hle : rs.length ≤ pl.request.beatCount := hlength.elim id fun h => h.trans hrequest.beats_le
  refine ⟨by rw [hupdated]; simpa using hlength', ?_, ?_, ?_, fun h => ?_⟩
  · rw [hupdated]
    simp only [List.all_append, List.all_cons, Bool.and_eq_true]
    refine ⟨hsoundAhead, (Place.sound_accepted (p := { pl with results := rs }) hrefusal).mpr
      ⟨hrequest, ?_, fun _ => hle, ?_⟩, hsoundRest⟩
    · simp [hpl]
    · simp [hpl]
  · rw [hupdated, queueOrdered_append_done hahead]
    rw [queueOrdered_append_done hahead] at hordered
    simpa [queueOrdered, hpl] using hordered
  · rw [placeInTenure_setResults hplace]
    rw [hplace] at htenure
    exact htenure
  · have hnil := hempty h
    rw [hqueue] at hnil
    simp at hnil

theorem State.QueueSound.hostDone (hI : s.QueueSound) {pl : Place} (hplace : s.placeInTenure = some pl)
    (hresults : pl.results.length = pl.request.beatCount) :
    State.QueueSound { s with
      queue := settlePlaces (moveFirst .inTenure .done s.queue), seq := { s.seq with tenure := .none } } := by
  obtain ⟨hlength, hsound, hordered, -, hempty⟩ := hI
  have hpl := placeInTenure_state hplace
  obtain ⟨ahead, rest, hqueue, hahead, -, hrest⟩ := queueOrdered_inTenure hordered hplace
  have hmoved : moveFirst .inTenure .done s.queue = (ahead ++ [{ pl with state := .done }]) ++ rest := by
    rw [hqueue, moveFirst_append (fun x hx => by rw [hahead x hx]; nofun) hpl, List.append_cons]
  have hdone : ∀ x ∈ ahead ++ [{ pl with state := .done }], x.state = .done := by
    simpa [or_imp, forall_and] using hahead
  rw [hqueue] at hlength hsound
  simp only [List.all_append, List.all_cons, Bool.and_eq_true] at hsound
  obtain ⟨hsoundAhead, hsoundPl, hsoundRest⟩ := hsound
  obtain ⟨hrefusal, hrequest, -⟩ := Place.sound_inTenure hsoundPl hpl
  refine ⟨?_, settlePlaces_sound ?_, ?_, iff_of_false nofun ?_, fun h => ?_⟩
  · rw [length_settlePlaces, hmoved]
    simpa using hlength
  · rw [hmoved]
    simp only [List.all_append, List.all_cons, Bool.and_eq_true]
    exact ⟨⟨hsoundAhead, (Place.sound_accepted (p := { pl with state := .done }) hrefusal).mpr
      ⟨hrequest, nofun, nofun, fun _ => hresults⟩, rfl⟩, hsoundRest⟩
  · rw [hmoved, settlePlaces_append_done hdone, queueOrdered_append_done hdone]
    exact queueOrdered_settle_waiting hrest
  · unfold State.placeInTenure
    rw [find?_inTenure_settlePlaces, hmoved, List.find?_append,
      List.find?_eq_none.mpr (by simpa using fun x hx => by simp [hdone x (by simpa using hx)]),
      List.find?_eq_none.mpr (by simpa using fun x hx => by simp [hrest x hx])]
    simp
  · have hnil := hempty h
    rw [hqueue] at hnil
    simp at hnil

theorem hostClaim_iff : s.hostClaim = true ↔ ∃ p, s.oldestWaiting = some p ∧ s.blocked p.request = false := by
  unfold State.hostClaim
  cases s.oldestWaiting <;> simp

theorem Move.queueSound (h : Move resets stores s t) (hI : s.QueueSound) : t.QueueSound := by
  obtain ⟨-, -, -, -, hempty⟩ := id hI
  have hfreed (hother : s.seq.tenure ≠ .host) := hI.change_tenure (seq := ⟨.none, s.seq.streak⟩) hother nofun
  cases h with
  | resetFall => exact .of_empty rfl nofun
  | resetRise => exact .of_empty rfl nofun
  | scrubDone _ _ _ htenure => exact hfreed (by simp [htenure])
  | grantHost _ hfree hlifecycle hclaim =>
    obtain ⟨p, hwaiting, -⟩ := hostClaim_iff.mp hclaim
    exact (hI.grantHost hfree hlifecycle hwaiting).1
  | grantMigration _ _ hfree => exact hI.change_tenure (by simp [hfree]) nofun
  | grantScrub _ hfree => exact hI.change_tenure (seq := ⟨.scrub, s.seq.streak⟩) (by simp [hfree]) nofun
  | grantDiag _ tenure _ hfree _ htenure =>
    exact hI.change_tenure (seq := ⟨tenure, s.seq.streak⟩) (by simp [hfree])
      (by obtain rfl | ⟨w, rfl⟩ := htenure <;> nofun)
  | grantFill _ hfree => exact hI.change_tenure (by simp [hfree]) nofun
  | requestTaken raw htake => exact hI.requestTaken raw htake
  | headFreed p rest hqueue hdone => exact hI.headFreed hqueue hdone
  | results pl rs _ hplace hlength => exact hI.results hplace hlength
  | hostDone pl _ hplace hresults => exact hI.hostDone hplace hresults
  | opened => exact hI.change_lifecycle (.inr ⟨rfl, nofun⟩)
  | drainBegins => exact hI.change_lifecycle (.inr ⟨rfl, nofun⟩)
  | drainEnds _ hqueue => exact hI.change_lifecycle (.inl hqueue)
  | fillBegins back _ _ hfrom =>
    refine hI.change_lifecycle (l := .filling back) (.inl ?_)
    obtain ⟨-, hqueue, -⟩ | ⟨hhold, -⟩ := hfrom
    · exact hqueue
    · exact hempty (.inl hhold)
  | fillWordDone p htenure => exact hfreed (by simp [htenure])
  | fillEnds back _ hlifecycle =>
    exact hI.change_lifecycle (l := back.lifecycle) (.inl (hempty (.inr (by rw [hlifecycle]; rfl))))
  | diagDone htenure => exact hfreed fun h => by simp [h, Tenure.isDiag] at htenure
  | migrationTenureDone _ _ _ _ htenure => exact hfreed (by simp [htenure])
  | contextStep _ _ _ _ _ _ htenure => exact hfreed (by simp [htenure])
  | targetReplaced _ _ _ _ _ htenure => exact hfreed (by simp [htenure])
  | migrationEnds => exact hI.endContext
  | installed => exact hI.endContext
  | installedAgain => exact hI.endContext
  | orphaned => exact hI.endContext
  | _ => exact hI

theorem StartMove.queueSound (h : StartMove s t) (hI : s.QueueSound) : t.QueueSound := by
  cases h <;> exact hI

/-- Settles O54: a request enters at the tail and leaves at the head; the first place that is not DONE goes into tenure
and becomes DONE, and with it the refused ones behind it. -/
theorem queueStaysSound : Obligations.QueueStaysSound := by
  intro s t hI h
  exact step_keeps_of_moves State.QueueSound (fun _ _ hI => hI) Move.queueSound StartMove.queueSound h hI

end Sys2Proof.Machine

/-! ## The migration and the host's writes to its word: O55 -/

namespace Sys2Proof.Machine

variable {resets : Bool} {stores : Option Nat} {s t : State}

/-- What a context keeps to, given the place in tenure (R94, R107). -/
def MigrationContext.soundWith (c : MigrationContext) (place : Option Place) : Prop :=
  c.restarts ≤ 3 ∧
  (c.pinned = true → c.restarts = 3 ∧ c.dirty = false ∧
    ∀ p ∈ place, p.request.kind = .write → p.request.names c.logical = false) ∧
  (c.phase ≠ .copyRead → c.buffer.isSome = true)

/-- A context stays sound where the request in tenure, if there is one, is the one there was. -/
theorem MigrationContext.soundWith.of_request {c : MigrationContext} {before after : Option Place}
    (h : c.soundWith before) (hrequest : ∀ p ∈ after, ∃ q ∈ before, q.request = p.request) : c.soundWith after := by
  obtain ⟨hrestarts, hpinned, hbuffer⟩ := h
  refine ⟨hrestarts, fun hpin => ?_, hbuffer⟩
  obtain ⟨hthree, hclean, hwrite⟩ := hpinned hpin
  refine ⟨hthree, hclean, fun p hp => ?_⟩
  obtain ⟨q, hq, hsame⟩ := hrequest p hp
  exact hsame ▸ hwrite q hq

/-- The part of the invariant that speaks of the running tenure (R95, R101). -/
theorem State.MigrationSound.context {c : MigrationContext} (hI : s.MigrationSound) (hcontext : s.migration = some c) :
    c.soundWith s.placeInTenure := hI.1 c hcontext

theorem State.MigrationSound.of_inactive (htenure : s.seq.tenure.ofActive = none)
    (hcontext : ∀ c ∈ s.migration, c.soundWith s.placeInTenure) : s.MigrationSound :=
  ⟨hcontext, by simp [htenure]⟩

/-- The port may pass to a tenure that is not the migration's. -/
theorem State.MigrationSound.change_tenure (hI : s.MigrationSound) {seq : Sequencer}
    (htenure : seq.tenure.ofActive = none) : State.MigrationSound { s with seq := seq } :=
  .of_inactive htenure fun _ hc => hI.context hc

/-- The queue may change behind the request in tenure. -/
theorem State.MigrationSound.change_queue (hI : s.MigrationSound) {q : List Place}
    (hrequest : ∀ p ∈ State.placeInTenure { s with queue := q }, ∃ p' ∈ s.placeInTenure, p'.request = p.request) :
    State.MigrationSound { s with queue := q } :=
  ⟨fun _ hc => (hI.context hc).of_request hrequest, hI.2⟩

theorem State.MigrationSound.of_no_migration (hmigration : s.migration = none) (htenure : s.seq.tenure.ofActive = none) :
    s.MigrationSound :=
  .of_inactive htenure fun c hc => by simp [hmigration] at hc

theorem ofActive_orphaned (tenure : Tenure) : tenure.orphaned.ofActive = none := by
  cases tenure <;> rfl

/-- A running tenure of the active migration is one of the context's phase (R95). -/
theorem State.MigrationSound.phase_of_tenure (hI : s.MigrationSound) {c : MigrationContext} {phase : MigrationPhase}
    {p : Nat} {d : DataWord} (hcontext : s.migration = some c) (htenure : s.seq.tenure = .migration phase p d true) :
    c.phase = phase := by
  obtain ⟨c', hc', hphase, -⟩ := hI.2 (phase, p, d) (by rw [htenure]; rfl)
  cases hcontext.symm.trans hc'
  exact hphase

/-- A context goes on soundly after the tenure of its phase, with no request in tenure (R99, R101, R106, R107). -/
theorem ContextStep.soundWith {phase : MigrationPhase} {c c' : MigrationContext} (h : ContextStep phase c c')
    (hphase : c.phase = phase) (hc : c.soundWith none) : c'.soundWith none := by
  obtain ⟨hrestarts, hpinned, hbuffer⟩ := hc
  cases h with
  | copied => exact ⟨hrestarts, hpinned, fun _ => rfl⟩
  | stored => exact ⟨hrestarts, hpinned, fun _ => hbuffer (by rw [hphase]; nofun)⟩
  | restarted _ hless =>
    refine ⟨hless, fun hpin => ?_, fun h => absurd rfl h⟩
    exact absurd (hpinned hpin).1 hless.ne
  | pinned _ hnot => exact ⟨hrestarts, fun _ => ⟨Nat.le_antisymm hrestarts (Nat.not_lt.mp hnot), rfl, nofun⟩, fun h => absurd rfl h⟩

/-- The write of a beat in tenure names the logical address of that beat. -/
theorem Request.names_beatAddress {r : Request} {h i : Nat} (hr : r.sound h) (hi : i < r.beats.length) :
    r.kind = .write ∧ r.names (r.beatAddress i) = true := by
  have hle := hr.beats_le
  obtain ⟨-, hread, -⟩ := hr
  have hkind : r.kind = .write := by
    cases hkind : r.kind with
    | write => rfl
    | read => simp [hread hkind] at hi
  exact ⟨hkind, by simp [Request.names, Request.beatAddress]; omega⟩

theorem State.QueueSound.request_inTenure (hQ : s.QueueSound) {pl : Place} (hplace : s.placeInTenure = some pl) :
    pl.request.sound s.H := by
  obtain ⟨-, hsound, -⟩ := hQ
  exact (Place.sound_inTenure (List.all_eq_true.mp hsound pl (List.mem_of_find?_eq_some hplace))
    (placeInTenure_state hplace)).2.1

/-- A request of the host's that pinning does not block goes into tenure beside a sound context (R41). -/
theorem MigrationContext.soundWith.of_unblocked {c : MigrationContext} {p : Place} (hc : c.soundWith none)
    (hcontext : s.migration = some c) (hblocked : s.blocked p.request = false) :
    c.soundWith (some { p with state := .inTenure }) := by
  obtain ⟨hrestarts, hpinned, hbuffer⟩ := hc
  refine ⟨hrestarts, fun hpin => ⟨(hpinned hpin).1, (hpinned hpin).2.1, fun x hx hwrite => ?_⟩, hbuffer⟩
  obtain rfl := Option.mem_some.mp hx
  have hwrite : p.request.kind = .write := hwrite
  simpa [State.blocked, hcontext, hpin, hwrite] using hblocked

theorem Move.migrationSound (h : Move resets stores s t) (hQ : s.QueueSound) (hI : s.MigrationSound) :
    t.MigrationSound := by
  cases h with
  | resetFall => exact .of_inactive rfl fun c hc => (hI.context hc).of_request nofun
  | resetRise => exact .of_no_migration rfl rfl
  | scrubDone => exact hI.change_tenure (seq := ⟨.none, s.seq.streak⟩) rfl
  | grantHost _ hfree hlifecycle hclaim =>
    obtain ⟨p, hwaiting, hblocked⟩ := hostClaim_iff.mp hclaim
    obtain ⟨-, hplace⟩ := hQ.grantHost hfree hlifecycle hwaiting
    refine .of_inactive rfl fun c hc => ?_
    have hbefore := hI.context hc
    rw [hQ.placeInTenure_none (by simp [hfree])] at hbefore
    exact hplace ▸ hbefore.of_unblocked hc hblocked
  | grantMigration c _ _ hcontext =>
    refine ⟨fun _ hc => hI.context hc, fun x hx => ⟨c, hcontext, ?_⟩⟩
    obtain rfl := Option.mem_some.mp hx
    refine ⟨rfl, rfl, fun hwrite => ?_⟩
    obtain ⟨-, -, hbuffer⟩ := hI.context hcontext
    obtain ⟨d, hd⟩ := Option.isSome_iff_exists.mp (hbuffer (by rw [show c.phase = _ from hwrite]; nofun))
    simp [hd]
  | grantScrub => exact hI.change_tenure (seq := ⟨.scrub, s.seq.streak⟩) rfl
  | grantDiag _ tenure _ _ _ htenure =>
    exact hI.change_tenure (seq := ⟨tenure, s.seq.streak⟩) (by obtain rfl | ⟨w, rfl⟩ := htenure <;> rfl)
  | grantFill => exact hI.change_tenure rfl
  | requestTaken raw =>
    refine hI.change_queue fun p hp => ⟨p, ?_, rfl⟩
    change (settlePlaces _).find? _ = some p at hp
    rw [find?_inTenure_settlePlaces, List.find?_append] at hp
    simpa [newPlace_state, State.placeInTenure] using hp
  | headFreed p rest hqueue hdone =>
    refine hI.change_queue fun x hx => ⟨x, ?_, rfl⟩
    change s.queue.find? _ = some x
    rw [hqueue, List.find?_cons_of_neg (by simp [hdone])]
    exact hx
  | results pl rs _ hplace =>
    refine hI.change_queue fun x hx => ⟨pl, hplace, ?_⟩
    obtain rfl := Option.mem_some.mp ((placeInTenure_setResults hplace rs) ▸ hx)
    rfl
  | dirtied pl i c htenure hplace hi hcontext hlogical =>
    refine .of_inactive (by rw [htenure]; rfl) fun c' hc' => ?_
    obtain rfl := Option.mem_some.mp hc'
    obtain ⟨hrestarts, hpinned, hbuffer⟩ := hI.context hcontext
    obtain ⟨hkind, hnames⟩ := Request.names_beatAddress (hQ.request_inTenure hplace) hi
    refine ⟨hrestarts, fun hpin => ?_, hbuffer⟩
    obtain ⟨-, -, hwrite⟩ := hpinned hpin
    have hfree := hwrite pl hplace hkind
    rw [hlogical, hnames] at hfree
    cases hfree
  | hostDone pl htenure hplace hresults =>
    have hnone := (hQ.hostDone hplace hresults).placeInTenure_none nofun
    refine .of_inactive rfl fun c hc => (hI.context hc).of_request fun p hp => ?_
    cases hnone.symm.trans hp
  | fillWordDone => exact hI.change_tenure (seq := ⟨.none, s.seq.streak⟩) rfl
  | diagDone => exact hI.change_tenure (seq := ⟨.none, s.seq.streak⟩) rfl
  | migrationTenureDone => exact hI.change_tenure rfl
  | contextStep c c' phase p d hcontext htenure hstep =>
    have hnone := hQ.placeInTenure_none (by simp [htenure])
    refine .of_inactive rfl fun c'' hc'' => ?_
    obtain rfl := Option.mem_some.mp hc''
    change MigrationContext.soundWith _ s.placeInTenure
    have hbefore := hI.context hcontext
    rw [hnone] at hbefore ⊢
    exact hstep.soundWith (hI.phase_of_tenure hcontext htenure) hbefore
  | targetReplaced c p d k hcontext htenure =>
    obtain ⟨hrestarts, hpinned, hbuffer⟩ := hI.context hcontext
    refine .of_inactive rfl fun c' hc' => ?_
    obtain rfl := Option.mem_some.mp hc'
    refine ⟨hrestarts, fun hpin => ⟨(hpinned hpin).1, rfl, (hpinned hpin).2.2⟩, fun _ => hbuffer ?_⟩
    rw [hI.phase_of_tenure hcontext htenure]
    nofun
  | migrationEnds => exact .of_no_migration rfl (ofActive_orphaned _)
  | installed => exact .of_no_migration rfl (ofActive_orphaned _)
  | installedAgain => exact .of_no_migration rfl (ofActive_orphaned _)
  | orphaned => exact .of_no_migration rfl (ofActive_orphaned _)
  | _ => exact hI

theorem StartMove.migrationSound (h : StartMove s t) (hI : s.MigrationSound) : t.MigrationSound := by
  cases h with
  | withoutSlot => exact hI
  | withSlot r rest k _ hmigration =>
    have hinactive : s.seq.tenure.ofActive = none := by
      refine Option.eq_none_iff_forall_not_mem.mpr fun x hx => ?_
      obtain ⟨c, hc, -⟩ := hI.2 x hx
      simp [hmigration] at hc
    refine .of_inactive hinactive fun c hc => ?_
    obtain rfl := Option.mem_some.mp hc
    exact ⟨Nat.zero_le 3, nofun, fun h => absurd rfl h⟩

/-- Settles O55: a pinned migration blocks the grant to a write of its word, and no write of its word is in tenure when it
is pinned, since its own VERIFY is. -/
theorem migrationStaysSound : Obligations.MigrationStaysSound := by
  intro s t hI h
  exact (step_keeps_of_moves (fun s => s.QueueSound ∧ s.MigrationSound) (fun _ _ hI => hI)
    (fun hmove hI => ⟨hmove.queueSound hI.1, hmove.migrationSound hI.1 hI.2⟩)
    (fun hstart hI => ⟨hstart.queueSound hI.1, hstart.migrationSound hI.2⟩) h hI).2

end Sys2Proof.Machine

/-! ## Lifecycle, command state, diagnostics and fill: O56 -/

namespace Sys2Proof.Machine

variable {resets : Bool} {stores : Option Nat} {s t : State}

theorem diagActive_iff : s.diagActive = true ↔ s.mgmt.diagClaim.isSome = true ∨ s.seq.tenure.isDiag = true :=
  Bool.or_eq_true_iff

theorem isDiag_orphaned (tenure : Tenure) : tenure.orphaned.isDiag = tenure.isDiag := by cases tenure <;> rfl

theorem fillAddress_orphaned (tenure : Tenure) : tenure.orphaned.fillAddress = tenure.fillAddress := by
  cases tenure <;> rfl

namespace State.LifecycleSound

/-- While IDLE no PEEK or POKE is under way. -/
theorem not_diagActive (hI : s.LifecycleSound) (h : s.mgmt.busy = false ∨ s.lifecycle.isDraining = true ∨
    s.lifecycle.isFilling = true) : s.diagActive = false := by
  obtain ⟨-, -, hdiag, -⟩ := hI
  refine Bool.eq_false_iff.mpr fun hactive => ?_
  obtain ⟨hbusy, hstate⟩ := hdiag hactive
  obtain h | h | h := h
  · exact absurd hbusy (by simp [h])
  · obtain hstate | hstate := hstate <;> simp [hstate, Lifecycle.isDraining] at h
  · obtain hstate | hstate := hstate <;> simp [hstate, Lifecycle.isFilling] at h

/-- No fill tenure runs outside FILLING. -/
theorem not_fillAddress (hI : s.LifecycleSound) (h : s.lifecycle.isFilling = false) :
    s.seq.tenure.fillAddress = none := by
  obtain ⟨-, -, -, -, -, -, hfill, -⟩ := hI
  refine Option.eq_none_iff_forall_not_mem.mpr fun p hp => ?_
  obtain ⟨hfilling, -⟩ := hfill p hp
  exact Bool.false_ne_true (h.symm.trans hfilling)

/-- Nothing migrates in FILLING. -/
theorem not_filling_of_migration (hI : s.LifecycleSound) {c : MigrationContext} (hcontext : s.migration = some c) :
    s.lifecycle.isFilling = false := by
  obtain ⟨-, -, -, -, -, hfilling, -⟩ := hI
  refine Bool.eq_false_iff.mpr fun h => ?_
  obtain ⟨-, -, hnone⟩ := hfilling h
  cases hnone.symm.trans hcontext

/-- The port may pass between tenures that are not a PEEK's or POKE's, to a fill at the cursor only. -/
theorem change_tenure (hI : s.LifecycleSound) {seq : Sequencer} (hbefore : s.seq.tenure.isDiag = false)
    (hafter : seq.tenure.isDiag = false)
    (hfill : ∀ p ∈ seq.tenure.fillAddress, s.lifecycle.isFilling = true ∧ p = s.fillCursor ∧ p < s.W) :
    State.LifecycleSound { s with seq := seq } := by
  obtain ⟨hdraining, hhold, hdiag, hactive, -, hfilling, -, hcursor⟩ := hI
  have hsame : State.diagActive { s with seq := seq } = s.diagActive := by
    simp [State.diagActive, hbefore, hafter]
  exact ⟨hdraining, hhold, fun h => hdiag (hsame ▸ h), fun hbusy hstate hhigh => hsame ▸ hactive hbusy hstate hhigh,
    fun _ => hafter, hfilling, hfill, hcursor⟩

/-- Credit and timer may change where they stay zero and stopped in FILLING. -/
theorem change_scrub (hI : s.LifecycleSound) {scrub : Scrubber}
    (hscrub : s.lifecycle.isFilling = true → scrub.credit = 0 ∧ scrub.timer = none) :
    State.LifecycleSound { s with scrub := scrub } := by
  obtain ⟨hdraining, hhold, hdiag, hactive, hclaim, hfilling, hfill, hcursor⟩ := hI
  exact ⟨hdraining, hhold, hdiag, hactive, hclaim,
    fun h => ⟨(hscrub h).1, (hscrub h).2, (hfilling h).2.2⟩, hfill, hcursor⟩

/-- The migration may change where none is in FILLING. -/
theorem change_migration (hI : s.LifecycleSound) {m : Option MigrationContext}
    (hm : s.lifecycle.isFilling = true → m = none) : State.LifecycleSound { s with migration := m } := by
  obtain ⟨hdraining, hhold, hdiag, hactive, hclaim, hfilling, hfill, hcursor⟩ := hI
  exact ⟨hdraining, hhold, hdiag, hactive, hclaim,
    fun h => ⟨(hfilling h).1, (hfilling h).2.1, hm h⟩, hfill, hcursor⟩

theorem endContext (hI : s.LifecycleSound) : s.endContext.LifecycleSound := by
  obtain ⟨hdraining, hhold, hdiag, hactive, hclaim, hfilling, hfill, hcursor⟩ :=
    hI.change_migration (m := none) fun _ => rfl
  have hsame : s.endContext.diagActive = s.diagActive := by
    simp [State.diagActive, State.endContext, isDiag_orphaned]
  refine ⟨hdraining, hhold, fun h => hdiag (hsame ▸ h), fun hbusy hstate hhigh => hsame ▸ hactive hbusy hstate hhigh,
    fun h => (isDiag_orphaned _).trans (hclaim h), hfilling, fun p hp => hfill p ?_, hcursor⟩
  exact (fillAddress_orphaned s.seq.tenure) ▸ hp

/-- A state with no PEEK or POKE under way and no fill tenure, where command state and lifecycle fit (R155, R179). -/
theorem of_quiet (hquiet : s.diagActive = false) (hfill : s.seq.tenure.fillAddress = none)
    (hbusy : s.mgmt.busy = true ↔ s.lifecycle.isDraining = true ∨ s.lifecycle = .filling .hold ∨
      s.lifecycle = .filling .opened ∧ s.mgmt.busy = true)
    (hfilling : s.lifecycle.isFilling = true → s.scrub.credit = 0 ∧ s.scrub.timer = none ∧ s.migration = none)
    (hcursor : s.fillCursor ≤ s.W) : s.LifecycleSound := by
  refine ⟨fun h => hbusy.mpr (.inl h), fun h => hbusy.mpr (.inr (.inl h)), fun h => ?_, fun h hstate => ?_, fun h => ?_,
    hfilling, by simp [hfill], hcursor⟩
  · simp [hquiet] at h
  · obtain hstate | hstate := hstate <;> simp [hstate, Lifecycle.isDraining, h] at hbusy
  · simp [State.diagActive, h] at hquiet

end State.LifecycleSound

/-- The grant of a PEEK or POKE turns the claim into the tenure. -/
theorem State.LifecycleSound.grantDiag (hI : s.LifecycleSound) {tenure : Tenure} (hclaim : s.mgmt.diagClaim.isSome = true)
    (htenure : tenure.isDiag = true) (hfill : tenure.fillAddress = none) :
    State.LifecycleSound { s with
      seq := { s.seq with tenure := tenure }, mgmt := { s.mgmt with diagClaim := none } } := by
  obtain ⟨hdraining, hhold, hdiag, -, -, hfilling, -, hcursor⟩ := hI
  exact ⟨hdraining, hhold, fun _ => hdiag (diagActive_iff.mpr (.inl hclaim)), fun _ _ _ => diagActive_iff.mpr (.inr htenure),
    nofun, hfilling, by simp [hfill], hcursor⟩

theorem State.LifecycleSound.diagTaken (hI : s.LifecycleSound) {claim : DiagClaim} (hidle : s.mgmt.busy = false)
    (hlifecycle : s.lifecycle.isFilling = false) :
    State.LifecycleSound { s with mgmt := { s.mgmt with busy := true, diagClaim := some claim } } := by
  have hquiet := hI.not_diagActive (.inl hidle)
  obtain ⟨hdraining, -, -, -, -, hfilling, hfill, hcursor⟩ := hI
  refine ⟨fun _ => rfl, fun _ => rfl, fun _ => ⟨rfl, ?_⟩, fun _ _ _ => rfl, fun _ => ?_, hfilling, hfill, hcursor⟩
  · cases hstate : s.lifecycle with
    | hold => exact .inl rfl
    | opened => exact .inr rfl
    | filling back => simp [hstate, Lifecycle.isFilling] at hlifecycle
    | draining target => exact absurd (hdraining (by rw [hstate]; rfl)) (by simp [hidle])
  · exact (Bool.or_eq_false_iff.mp hquiet).2

theorem State.LifecycleSound.diagDone (hI : s.LifecycleSound) (htenure : s.seq.tenure.isDiag = true) :
    State.LifecycleSound { s with seq := { s.seq with tenure := .none }, mgmt := { s.mgmt with busy := false } } := by
  obtain ⟨-, -, hdiag, -, hclaim, hfilling, -, hcursor⟩ := hI
  obtain ⟨-, hstate⟩ := hdiag (diagActive_iff.mpr (.inr htenure))
  have hnone : s.mgmt.diagClaim.isSome = false :=
    Bool.eq_false_iff.mpr fun h => Bool.false_ne_true ((hclaim h).symm.trans htenure)
  refine .of_quiet ?_ rfl (iff_of_false nofun ?_) hfilling hcursor
  · exact (Bool.or_false _).trans hnone
  · obtain hstate | hstate := hstate <;> simp [hstate, Lifecycle.isDraining]

theorem Move.lifecycleSound (h : Move resets stores s t) (hI : s.LifecycleSound) : t.LifecycleSound := by
  obtain ⟨hdraining, hhold, hdiag, hactive, hclaim, hfilling, hfill, hcursor⟩ := id hI
  have hfreed (hother : s.seq.tenure.isDiag = false) := hI.change_tenure (seq := ⟨.none, s.seq.streak⟩) hother rfl nofun
  cases h with
  | resetFall => exact ⟨hdraining, hhold, nofun, nofun, nofun, hfilling, nofun, hcursor⟩
  | resetRise a preserve =>
    cases preserve <;>
      exact .of_quiet rfl rfl (iff_of_false nofun (by simp [State.riseWith, State.afterReset, Lifecycle.isDraining,
        Mgmt.reset])) (fun _ => by trivial) (Nat.zero_le _)
  | port p m hreset hbusy hclaim' =>
    have hsame : State.diagActive { s with pins := p, mgmt := m } = s.diagActive := by
      simp [State.diagActive, hclaim']
    rw [State.LifecycleSound, hsame]
    exact ⟨fun h => hbusy ▸ hdraining h, fun h => hbusy ▸ hhold h, fun h => hbusy ▸ hdiag h,
      fun h hstate hhigh => hactive (hbusy ▸ h) hstate (hreset ▸ hhigh), fun h => hclaim (hclaim' ▸ h), hfilling, hfill,
      hcursor⟩
  | configInterval n timer _ htimer =>
    exact hI.change_scrub (scrub := { s.scrub with timer := timer }) fun h => ⟨(hfilling h).1, by rw [htimer, if_pos h]⟩
  | clock n us timer _ htimer =>
    refine hI.change_scrub fun h => ⟨(hfilling h).1, ?_⟩
    obtain ⟨-, hstopped, -⟩ := hfilling h
    obtain rfl | rfl := htimer
    · exact hstopped
    · rw [hstopped]
      rfl
  | expiry e credit htimer =>
    refine hI.change_scrub fun h => ?_
    obtain ⟨-, hstopped, -⟩ := hfilling h
    cases hstopped.symm.trans htimer
  | scrubDone credit cursor passes htenure hcredit =>
    refine (hfreed (by rw [htenure]; rfl)).change_scrub fun h => ⟨?_, (hfilling h).2.1⟩
    exact Nat.le_zero.mp ((hfilling h).1 ▸ hcredit)
  | scrubReset =>
    refine hI.change_scrub (scrub := { s.scrub with timer := s.timerAfterSoftReset, credit := 0 }) fun h => ⟨rfl, ?_⟩
    rw [timerAfterSoftReset_eq, if_pos h]
  | grantHost _ hfree => exact hI.change_tenure (seq := ⟨.host, _⟩) (by rw [hfree]; rfl) rfl nofun
  | grantMigration c _ hfree => exact hI.change_tenure (by rw [hfree]; rfl) rfl nofun
  | grantScrub _ hfree => exact hI.change_tenure (seq := ⟨.scrub, s.seq.streak⟩) (by rw [hfree]; rfl) rfl nofun
  | grantDiag claim tenure _ _ hclaim' htenure =>
    obtain rfl | ⟨w, rfl⟩ := htenure <;> exact hI.grantDiag (by rw [hclaim']; rfl) rfl rfl
  | grantFill _ hfree hlifecycle hless =>
    exact hI.change_tenure (by rw [hfree]; rfl) rfl fun p hp => by
      obtain rfl := Option.mem_some.mp hp
      exact ⟨hlifecycle, rfl, hless⟩
  | dirtied _ _ c htenure _ _ hcontext =>
    exact hI.change_migration fun h => by simp [hI.not_filling_of_migration hcontext] at h
  | hostDone _ htenure => exact hfreed (by rw [htenure]; rfl)
  | opened hlifecycle =>
    refine ⟨nofun, nofun, fun h => ⟨(hdiag h).1, .inr rfl⟩, fun hbusy _ hhigh => hactive hbusy (.inl hlifecycle) hhigh, hclaim,
      nofun, ?_, hcursor⟩
    rw [hI.not_fillAddress (by rw [hlifecycle]; rfl)]
    nofun
  | drainBegins target hidle hlifecycle =>
    exact .of_quiet (hI.not_diagActive (.inl hidle)) (hI.not_fillAddress (by rw [hlifecycle]; rfl))
      (iff_of_true rfl (.inl rfl)) nofun hcursor
  | drainEnds hlifecycle =>
    refine .of_quiet (hI.not_diagActive (.inr (.inl (by rw [hlifecycle]; rfl))))
      (hI.not_fillAddress (by rw [hlifecycle]; rfl)) (iff_of_false nofun ?_) nofun hcursor
    simp [Lifecycle.isDraining]
  | fillBegins back busy hmigration hfrom =>
    obtain ⟨hlifecycle, -, rfl⟩ | ⟨hlifecycle, hidle, rfl⟩ := hfrom
    · have hbusy := hdraining (by rw [hlifecycle]; rfl)
      refine .of_quiet (hI.not_diagActive (.inr (.inl (by rw [hlifecycle]; rfl))))
        (hI.not_fillAddress (by rw [hlifecycle]; rfl)) (iff_of_true hbusy ?_) (fun _ => ⟨rfl, rfl, hmigration⟩)
        (Nat.zero_le _)
      cases back
      · exact .inr (.inr ⟨rfl, hbusy⟩)
      · exact .inr (.inl rfl)
    · refine .of_quiet (hI.not_diagActive (.inl hidle)) (hI.not_fillAddress (by rw [hlifecycle]; rfl))
        (iff_of_true rfl ?_) (fun _ => ⟨rfl, rfl, hmigration⟩) (Nat.zero_le _)
      cases back
      · exact .inr (.inr ⟨rfl, rfl⟩)
      · exact .inr (.inl rfl)
  | fillWordDone p htenure =>
    obtain ⟨-, rfl, hless⟩ := hfill p (by rw [htenure]; rfl)
    obtain ⟨hdraining, hhold, hdiag, hactive, hclaim, hfilling, -, -⟩ := hfreed (by rw [htenure]; rfl)
    exact ⟨hdraining, hhold, hdiag, hactive, hclaim, hfilling, nofun, hless⟩
  | fillEnds back htenure hlifecycle =>
    refine .of_quiet (hI.not_diagActive (.inr (.inr (by rw [hlifecycle]; rfl)))) (by rw [htenure]; rfl)
      (iff_of_false nofun ?_) (fun h => ?_) hcursor
    · cases back <;> simp [Lifecycle.isDraining, FillReturn.lifecycle]
    · cases back <;> simp [Lifecycle.isFilling, FillReturn.lifecycle] at h
  | diagTaken claim hidle _ hlifecycle => exact hI.diagTaken hidle hlifecycle
  | diagDone htenure => exact hI.diagDone htenure
  | migrationTenureDone _ _ _ _ htenure => exact hfreed (by rw [htenure]; rfl)
  | contextStep c c' _ _ _ hcontext htenure =>
    exact (hfreed (by rw [htenure]; rfl)).change_migration fun h => by simp [hI.not_filling_of_migration hcontext] at h
  | targetReplaced c _ _ _ hcontext htenure =>
    exact (hfreed (by rw [htenure]; rfl)).change_migration fun h => by simp [hI.not_filling_of_migration hcontext] at h
  | migrationEnds => exact hI.endContext
  | installed => exact hI.endContext
  | installedAgain => exact hI.endContext
  | orphaned => exact hI.endContext
  | _ => exact hI

theorem StartMove.lifecycleSound (h : StartMove s t) (hI : s.LifecycleSound) : t.LifecycleSound := by
  cases h with
  | withoutSlot => exact hI
  | withSlot r rest k _ _ hlifecycle =>
    refine hI.change_migration fun h => ?_
    obtain hlifecycle | hlifecycle := hlifecycle <;> simp [hlifecycle, Lifecycle.isFilling] at h

/-- Settles O56: each change of the lifecycle or of the command state finds no PEEK or POKE under way, or is that of one. -/
theorem lifecycleStaysSound : Obligations.LifecycleStaysSound := by
  intro s t hI h
  exact step_keeps_of_moves State.LifecycleSound (fun _ _ hI => hI) Move.lifecycleSound StartMove.lifecycleSound h hI

end Sys2Proof.Machine

/-! ## RESET_N low, and the frame: O5, O57 -/

namespace Sys2Proof.Machine

variable {resets : Bool} {stores : Option Nat} {s t : State}

/-! ### What a row does while RESET_N is low -/

/-- t is s but for the pins, with RESET_N low. -/
def PinsOnly (s t : State) : Prop := ∃ pins : Pins, t = { s with pins := pins } ∧ pins.resetLow = true

/-- The result is next, with no more than the pins changed. -/
def AnswersPins (s : State) (r : Result) : Prop := ∃ pins : Pins, r = .next { s with pins := pins } ∧ pins.resetLow = true

theorem PinsOnly.refl (hlow : s.pins.resetLow = true) : PinsOnly s s := ⟨s.pins, rfl, hlow⟩

theorem answersPins_next (h : PinsOnly s t) : AnswersPins s (.next t) := by
  obtain ⟨pins, rfl, hlow⟩ := h
  exact ⟨pins, rfl, hlow⟩

theorem answersPins_self (hlow : s.pins.resetLow = true) : AnswersPins s (.next s) := answersPins_next (.refl hlow)

theorem answersPins_whileRunning (hlow : s.pins.resetLow = true) (t : State) : AnswersPins s (whileRunning s t) := by
  rw [whileRunning_low hlow]
  exact answersPins_self hlow

theorem State.openFrame_low (hlow : s.pins.resetLow = true) (hframe : s.mgmt.frame = .idle) :
    PinsOnly s s.openFrame ∧ s.openFrame.mgmt.frame = .idle := by
  unfold State.openFrame
  split
  · exact ⟨.refl hlow, hframe⟩
  · rw [← hframe]
    exact ⟨⟨{ s.pins with ssnLow := true }, rfl, hlow⟩, rfl⟩

theorem State.frameEnded_low (hlow : s.pins.resetLow = true) (hframe : s.mgmt.frame = .idle) :
    PinsOnly s s.frameEnded :=
  ⟨{ s.pins with ssnLow := false }, by unfold State.frameEnded; rw [← hframe], hlow⟩

/-- A frame abandoned by the reset has no effect at its end (R168). -/
theorem State.atFrameEnd_low (hlow : s.pins.resetLow = true) (hframe : s.mgmt.frame = .idle) (act : State → State) :
    AnswersPins s (.next (s.atFrameEnd act)) := by
  obtain ⟨-, hidle⟩ := State.openFrame_low hlow hframe
  simp only [State.atFrameEnd, hidle, State.openFrame_closeFrame]
  exact answersPins_next (State.frameEnded_low hlow hframe)

theorem State.takeWriteWord_low (hlow : s.pins.resetLow = true) (hframe : s.mgmt.frame = .idle) (v : MgmtWord) :
    AnswersPins s (.next (s.takeWriteWord v)) := by
  obtain ⟨hpins, hidle⟩ := State.openFrame_low hlow hframe
  simp only [State.takeWriteWord, hidle]
  exact answersPins_next hpins

theorem State.writeAtConfig_low (hlow : s.pins.resetLow = true) (hframe : s.mgmt.frame = .idle) (i : Nat) (v : MgmtWord) :
    AnswersPins s (.next (s.writeAtConfig i v)) := by
  unfold State.writeAtConfig
  split
  · exact State.takeWriteWord_low hlow hframe v
  · exact answersPins_self hlow

theorem State.requestTake_low (hlow : s.pins.resetLow = true) : s.requestTake = false := by
  simp [State.requestTake, hlow]

theorem State.hostTenurePlace_free (hfree : s.seq.tenure = .none) : s.hostTenurePlace = none := by
  simp [State.hostTenurePlace, hfree]

/-- Settles O5: no tenure, no place, no hand-off and no frame is there for a row to act on, and the rows of the running part
wait for the rise. -/
theorem nothingButPinsWhileResetLow : Obligations.NothingButPinsWhileResetLow := by
  intro c s hquiet hlow hrise
  obtain ⟨hfree, hqueue, hoffers, hreports, hframe, -⟩ := hquiet hlow
  have hplace := State.hostTenurePlace_free hfree
  change AnswersPins s (exec c s)
  cases c with
  | resetNLow midWrite =>
    simp only [exec, execResetNLow, if_pos hlow]
    exact answersPins_self hlow
  | resetNRise a preserve => exact absurd rfl (hrise a preserve)
  | requestTaken header b0 b1 b2 b3 =>
    simp only [exec, execRequestTaken, State.requestTake_low hlow, Bool.false_eq_true, if_false]
    exact ⟨{ s.pins with presented := some ⟨header, b0, b1, b2, b3⟩ }, rfl, hlow⟩
  | heldRequestTaken =>
    simp only [exec, execHeldRequestTaken, State.requestTake_low hlow, Bool.false_eq_true, if_false]
    split <;> exact answersPins_self hlow
  | responseTaken =>
    simp only [exec, execResponseTaken, hqueue]
    exact answersPins_self hlow
  | grantDecision =>
    simp only [exec, execGrantDecision, if_pos hfree]
    split
    · exact answersPins_whileRunning hlow _
    · exact answersPins_self hlow
  | hostReadBeat | hostWriteBeat | hostMergeBeat | hostTenureCompletion =>
    simp only [exec, execHostReadBeat, execHostWriteBeat, execHostMergeBeat, execHostTenureCompletion, hplace]
    exact answersPins_self hlow
  | recordOffer src =>
    simp only [exec, execRecordOffer, hoffers, List.find?_nil]
    exact answersPins_self hlow
  | ceReport src =>
    simp only [exec, execCeReport, hreports, List.find?_nil]
    exact answersPins_self hlow
  | referenceClockPeriod => exact answersPins_whileRunning hlow _
  | microsecondTick =>
    simp only [exec, execMicrosecondTick]
    split
    · exact answersPins_whileRunning hlow _
    · exact answersPins_self hlow
  | intervalExpiry =>
    simp only [exec, execIntervalExpiry]
    split
    · exact answersPins_self hlow
    · split
      · split <;> exact answersPins_whileRunning hlow _
      · exact answersPins_self hlow
  | migrationStart =>
    simp only [exec, execMigrationStart]
    split
    · exact answersPins_self hlow
    · split
      · exact answersPins_whileRunning hlow _
      · exact answersPins_self hlow
  | scrubDecode | scrubStepCompletion | copyReadCompletion | copyWriteCompletion | verifyCompletion | fillWordCompletion
  | peekCompletion | pokeCompletion =>
    simp only [exec, execScrubDecode, execScrubStepCompletion, execCopyReadCompletion, execCopyWriteCompletion,
      execVerifyCompletion, execFillWordCompletion, execPeekCompletion, execPokeCompletion, hfree, reduceCtorEq, if_false]
    exact answersPins_self hlow
  | unknownCommand code =>
    simp only [exec, execUnknownCommand]
    split
    · exact answersPins_self hlow
    · exact State.atFrameEnd_low hlow hframe _
  | map | unmap | slotFree | slotBad | peek | poke | scrubSeek | retire | clearWatch | cancelMigration | popLog | clearLog
  | clearSummary | openArray | closeArray | fillArray | softReset | select => exact State.atFrameEnd_low hlow hframe _
  | readWord =>
    obtain ⟨hpins, hidle⟩ := State.openFrame_low hlow hframe
    simp only [exec, execReadWord, State.takeReadWord, hidle]
    exact answersPins_next hpins
  | writeWord value => exact State.takeWriteWord_low hlow hframe value
  | scrubIntervalWrite value => exact State.writeAtConfig_low hlow hframe 1 value
  | timebaseDivWrite value => exact State.writeAtConfig_low hlow hframe 4 value
  | alertMaskWrite value => exact State.writeAtConfig_low hlow hframe 3 value
  | unknownFrameKind kind =>
    obtain ⟨hpins, hidle⟩ := State.openFrame_low hlow hframe
    simp only [exec, execUnknownFrameKind, hidle]
    split
    · exact answersPins_self hlow
    · exact answersPins_next hpins
  | frameStart => exact answersPins_next (State.openFrame_low hlow hframe).1
  | frameEnd => exact answersPins_next (State.frameEnded_low hlow hframe)

/-! ### The port and the reset -/

theorem Move.portSound (h : Move resets stores s t) (hI : s.PortSound) : t.PortSound := by
  obtain ⟨hpointer, hhigh, hlow⟩ := hI
  cases h with
  | resetFall => exact ⟨hpointer, fun _ => rfl, fun _ => rfl⟩
  | resetRise => exact ⟨Nat.le_refl 0, fun _ => rfl, fun _ => rfl⟩
  | port p m hreset _ _ hpointer' hframe =>
    refine ⟨?_, fun h => ?_, fun h => ?_⟩
    · obtain h | ⟨hp, hw⟩ := hpointer'
      · exact h
      · exact (hp.trans_le hpointer).trans_eq (by rw [← hw])
    · obtain h' | ⟨hssn, h'⟩ | ⟨hssn, -⟩ := hframe
      · exact h'
      · exact h'.trans (hhigh (hssn ▸ h))
      · exact absurd (hssn.symm.trans h) (by decide)
    · have hwas : s.pins.resetLow = true := hreset ▸ h
      obtain h' | ⟨-, h'⟩ | ⟨-, h'⟩ := hframe
      · exact h'
      · exact h'.trans (hlow hwas)
      · exact absurd (hlow hwas) (h' hwas)
  | _ => exact ⟨hpointer, hhigh, hlow⟩

theorem StartMove.portSound (h : StartMove s t) (hI : s.PortSound) : t.PortSound := by
  cases h <;> exact hI

/-- Only the rows of RESET_N move it. -/
theorem Move.resetLow (h : Move false stores s t) : t.pins.resetLow = s.pins.resetLow := by
  cases h with
  | resetFall hreset => cases hreset
  | resetRise _ _ hreset => cases hreset
  | port _ _ hreset => exact hreset
  | _ => rfl

theorem Moves.resetLow (h : Moves false stores s t) : t.pins.resetLow = s.pins.resetLow := by
  induction h with
  | refl => rfl
  | tail _ hmove ih => exact hmove.resetLow.trans ih

theorem StartMove.pins (h : StartMove s t) : t.pins = s.pins := by cases h <;> rfl

/-- With RESET_N high, a row other than its edges leaves it high. -/
theorem exec_resetLow {c : Instr} (hc : movesReset c = false) (h : exec c s = .next t) :
    t.pins.resetLow = s.pins.resetLow := by
  obtain hmoves | ⟨u, hu, rfl⟩ := exec_moves h
  · rw [hc] at hmoves
    exact hmoves.resetLow
  · rw [(moves_offerDueEntries (resets := false) (stores := none) (s := u)).resetLow, hu.pins]

theorem State.riseWith_quiet (s : State) (a : Fin 8) (preserve : Bool) : (s.riseWith a preserve).ResetQuiet := nofun

theorem State.driveLow_quiet (s : State) (midWrite : Bool) : (s.driveLow midWrite).ResetQuiet :=
  fun _ => ⟨rfl, rfl, rfl, rfl, rfl, rfl⟩

theorem exec_resetQuiet {c : Instr} (h : exec c s = .next t) (hI : s.ResetQuiet) : t.ResetQuiet := by
  by_cases hrise : ∃ a preserve, c = .resetNRise a preserve
  · obtain ⟨a, preserve, rfl⟩ := hrise
    cases h
    exact State.riseWith_quiet _ a preserve
  cases hreset : s.pins.resetLow with
  | true =>
    obtain ⟨pins, hnext, -⟩ :=
      nothingButPinsWhileResetLow c s hI hreset fun a preserve hc => hrise ⟨a, preserve, hc⟩
    cases hnext.symm.trans h
    exact fun _ => hI hreset
  | false =>
    cases hc : movesReset c with
    | false => exact fun hlow => by simp [exec_resetLow hc h, hreset] at hlow
    | true =>
      cases c with
      | resetNLow midWrite =>
        cases h
        rw [if_neg (by simp [hreset])]
        exact s.driveLow_quiet midWrite
      | resetNRise a preserve => exact absurd ⟨a, preserve, rfl⟩ hrise
      | _ => cases hc

/-- Settles O57: the pointer is clamped and advances within its window, and while RESET_N is low only the pins move (O5). -/
theorem portAndResetStaySound : Obligations.PortAndResetStaySound := by
  intro s t hI h
  exact ⟨step_keeps_of_moves State.PortSound (fun _ _ hI => hI) Move.portSound StartMove.portSound h hI.1,
    step_keeps (I := State.ResetQuiet) (fun _ _ hI => hI) exec_resetQuiet h hI.2⟩

end Sys2Proof.Machine

/-! ## Every access exists: O59 -/

namespace Sys2Proof.Machine

variable {resets : Bool} {stores : Option Nat} {s t : State}

/-! ### Physical addresses and their owners (R17, R27) -/

/-- A physical address lies below H, in the spare region, or beyond the array. -/
theorem State.address_cases (s : State) (p : Nat) : p < s.H ∨ (∃ k : Fin 64, p = s.slotAddress k) ∨ s.W ≤ p := by
  by_cases hhome : p < s.H
  · exact .inl hhome
  · by_cases hspare : p < s.W
    · have hadd := s.H_add
      exact .inr (.inl ⟨⟨p - s.H, by omega⟩, by simp only [State.slotAddress]; omega⟩)
    · exact .inr (.inr (Nat.not_lt.mp hspare))

theorem State.owner_beyond {p : Nat} (hp : s.W ≤ p) : s.owner p = none := by
  have hadd := s.H_add
  have hhome : ¬ p < s.H := by omega
  have hspare : ¬ (s.H ≤ p ∧ p - s.H < 64) := by omega
  have hslot : s.slotAt p = none := by rw [State.slotAt, dif_neg hspare]
  have hkind : s.kindAt p = none := by rw [State.kindAt, if_neg hhome, hslot, Option.map_none]
  unfold State.owner
  rw [hkind]

/-- Who has an owner: a home word itself, and a slot in use its entry's logical address. -/
theorem State.owner_eq_some {p l : Nat} : s.owner p = some l ↔
    (p < s.H ∧ s.mappedSlot p = none ∧ p = l) ∨
    ∃ (k : Fin 64) (e : RepairEntry), p = s.slotAddress k ∧ s.tu.pool[k] = .inUse ∧ s.tu.table[k] = some e ∧ e.logical = l := by
  constructor
  · intro howner
    obtain hhome | ⟨k, rfl⟩ | hbeyond := s.address_cases p
    · cases hmapped : s.mappedSlot p with
      | none =>
        rw [State.owner_home hhome hmapped] at howner
        exact .inl ⟨hhome, rfl, Option.some.inj howner⟩
      | some k =>
        rw [State.owner_retired hhome hmapped] at howner
        cases howner
    · by_cases hinUse : s.tu.pool[k] = .inUse
      · rw [State.owner_slotInUse hinUse, Option.map_eq_some_iff] at howner
        obtain ⟨e, he, hl⟩ := howner
        exact .inr ⟨k, e, rfl, hinUse, he, hl⟩
      · rw [State.owner_idleSlot hinUse] at howner
        cases howner
    · rw [State.owner_beyond hbeyond] at howner
      cases howner
  · rintro (⟨hhome, hmapped, rfl⟩ | ⟨k, e, rfl, hinUse, he, rfl⟩)
    · exact State.owner_home hhome hmapped
    · rw [State.owner_slotInUse hinUse, he, Option.map_some]

/-- The owner of a word is a logical address. -/
theorem State.LogicalsExist.owner_lt (hI : s.LogicalsExist) {p l : Nat} (h : s.owner p = some l) : l < s.H := by
  obtain ⟨htable, -, -⟩ := hI
  obtain ⟨hhome, -, rfl⟩ | ⟨k, e, -, -, he, rfl⟩ := State.owner_eq_some.mp h
  · exact hhome
  · exact htable k e he

/-! ### The invariant's parts -/

/-- A table entry may be replaced by one for a logical address that exists, or by none. -/
theorem State.LogicalsExist.setEntry (hI : s.LogicalsExist) {k : Fin 64} {e : Option RepairEntry}
    (he : ∀ e' ∈ e, e'.logical < s.H) : (s.setEntry k e).LogicalsExist := by
  obtain ⟨htable, hretq, hmigration⟩ := hI
  refine ⟨fun j e' he' => ?_, hretq, hmigration⟩
  rw [State.setEntry_table] at he'
  split at he'
  · exact he e' he'
  · exact htable j e' he'

theorem State.LogicalsExist.endContext (hI : s.LogicalsExist) : s.endContext.LogicalsExist :=
  ⟨hI.1, hI.2.1, nofun⟩

theorem State.LogicalsExist.setContext (hI : s.LogicalsExist) {c c' : MigrationContext}
    (hcontext : s.migration = some c) (hlogical : c'.logical = c.logical) : (s.setContext c').LogicalsExist := by
  obtain ⟨htable, hretq, hmigration⟩ := hI
  refine ⟨htable, hretq, fun x hx => ?_⟩
  obtain rfl := Option.mem_some.mp hx
  exact hlogical ▸ hmigration c hcontext

theorem Move.logicalsExist (h : Move resets stores s t) (hI : s.LogicalsExist) : t.LogicalsExist := by
  obtain ⟨htable, hretq, hmigration⟩ := id hI
  cases h with
  | resetRise =>
    refine ⟨fun k e he => ?_, nofun, nofun⟩
    simp [State.riseWith, State.afterReset, TranslationUnit.reset] at he
  | dirtied _ _ c _ _ _ hcontext => exact hI.setContext (c' := { c with dirty := true }) hcontext rfl
  | contextStep c c' _ _ _ hcontext _ hstep => exact hI.setContext hcontext hstep.logical
  | targetReplaced c p d k hcontext =>
    exact hI.setContext (c' := { c with target := k, dirty := false, phase := _ }) hcontext rfl
  | migrationEnds => exact hI.endContext
  | installed c hcontext =>
    exact (hI.setEntry (e := some ⟨c.logical, .migrated, 1⟩) fun e' he' =>
      Option.mem_some.mp he' ▸ hmigration c hcontext).endContext
  | installedAgain c old moves hcontext =>
    exact ((hI.setEntry (k := old) (e := none) nofun).setEntry (e := some ⟨c.logical, .migrated, moves⟩) fun e' he' =>
      Option.mem_some.mp he' ▸ hmigration c hcontext).endContext
  | mapped l k hl =>
    exact hI.setEntry (e := some ⟨l, .loaded, 0⟩) fun e' he' => Option.mem_some.mp he' ▸ hl
  | unmapped l k => exact hI.setEntry (e := none) nofun
  | retirementQueued l origin _ _ _ hl =>
    refine ⟨htable, fun r hr => ?_, hmigration⟩
    obtain hr | rfl := List.mem_append.mp hr |>.imp_right List.mem_singleton.mp
    · exact hretq r hr
    · exact hl.elim id fun ⟨p, howner⟩ => hI.owner_lt howner
  | retirementsCleared => exact ⟨htable, nofun, hmigration⟩
  | orphaned => exact hI.endContext
  | _ => exact hI

theorem StartMove.logicalsExist (h : StartMove s t) (hI : s.LogicalsExist) : t.LogicalsExist := by
  obtain ⟨htable, hretq, hmigration⟩ := hI
  cases h with
  | withSlot r rest k hqueue =>
    rw [hqueue, List.forall_mem_cons] at hretq
    refine ⟨htable, hretq.2, fun x hx => ?_⟩
    obtain rfl := Option.mem_some.mp hx
    exact hretq.1
  | withoutSlot r rest hqueue =>
    rw [hqueue, List.forall_mem_cons] at hretq
    exact ⟨htable, hretq.2, hmigration⟩

theorem address_orphaned (tenure : Tenure) : tenure.orphaned.address = tenure.address := by cases tenure <;> rfl

/-- The port may pass to a tenure at an address that exists. -/
theorem State.AddressesExist.change_tenure (hI : s.AddressesExist) {seq : Sequencer}
    (htenure : ∀ p ∈ seq.tenure.address, p < s.W) : State.AddressesExist { s with seq := seq } :=
  ⟨hI.1, htenure, hI.2.2⟩

theorem State.AddressesExist.freePort (hI : s.AddressesExist) :
    State.AddressesExist { s with seq := ⟨.none, s.seq.streak⟩ } := hI.change_tenure nofun

theorem State.AddressesExist.endContext (hI : s.AddressesExist) : s.endContext.AddressesExist := by
  obtain ⟨-, htenure, hrest⟩ := hI
  exact ⟨nofun, fun p hp => htenure p (address_orphaned _ ▸ hp), hrest⟩

theorem State.AddressesExist.setContext (hI : s.AddressesExist) {c c' : MigrationContext}
    (hcontext : s.migration = some c) (hsource : c'.source = c.source) : (s.setContext c').AddressesExist := by
  obtain ⟨hmigration, hrest⟩ := hI
  refine ⟨fun x hx => ?_, hrest⟩
  obtain rfl := Option.mem_some.mp hx
  exact hsource ▸ hmigration c hcontext

theorem ContextStep.source {phase : MigrationPhase} {c c' : MigrationContext} (h : ContextStep phase c c') :
    c'.source = c.source := by
  cases h <;> rfl

theorem State.AddressesExist.phaseAddress_lt (hI : s.AddressesExist) {c : MigrationContext}
    (hcontext : s.migration = some c) : s.phaseAddress c < s.W := by
  unfold State.phaseAddress
  split
  · exact hI.1 c hcontext
  all_goals exact s.slotAddress_lt_W _

theorem Move.addressesExist (h : Move resets stores s t) (hI : s.AddressesExist) : t.AddressesExist := by
  obtain ⟨hmigration, htenure, hclaim, hcursor, hstep⟩ := id hI
  cases h with
  | resetFall => exact ⟨hmigration, nofun, nofun, hcursor, hstep⟩
  | resetRise => exact ⟨nofun, nofun, nofun, State.W_pos _, nofun⟩
  | port p m _ _ hclaim' => exact ⟨hmigration, htenure, fun d hd => hclaim d (hclaim' ▸ hd), hcursor, hstep⟩
  | seek p hp =>
    refine ⟨hmigration, htenure, hclaim, hp, fun st hst => ?_⟩
    obtain ⟨st', hst', heq⟩ := markCursorMoved_target hst
    exact heq ▸ hstep st' hst'
  | scrubDecoded st hst =>
    refine ⟨hmigration, htenure, hclaim, hcursor, ?_⟩
    rintro _ ⟨⟩
    exact hstep st hst
  | scrubDone credit cursor passes _ _ hcursor' =>
    exact ⟨hmigration, nofun, hclaim, show cursor < s.W by omega, nofun⟩
  | scrubReset =>
    refine ⟨hmigration, htenure, hclaim, s.W_pos, fun st hst => ?_⟩
    obtain ⟨st', hst', heq⟩ := markCursorMoved_target hst
    exact heq ▸ hstep st' hst'
  | grantHost => exact hI.change_tenure (seq := ⟨.host, _⟩) nofun
  | grantMigration c _ _ hcontext =>
    exact hI.change_tenure fun p hp => Option.mem_some.mp hp ▸ hI.phaseAddress_lt hcontext
  | grantScrub =>
    have htarget : s.scrubTarget.1 < s.W := scrubSearch_lt hcursor
    exact ⟨hmigration, nofun, hclaim, htarget, fun st hst => Option.mem_some.mp hst ▸ htarget⟩
  | grantDiag claim tenure _ _ hclaim' htenure' =>
    refine ⟨hmigration, fun p hp => ?_, nofun, hcursor, hstep⟩
    obtain rfl | ⟨w, rfl⟩ := htenure' <;> exact Option.mem_some.mp hp ▸ hclaim claim hclaim'
  | grantFill _ _ _ hless => exact hI.change_tenure fun p hp => Option.mem_some.mp hp ▸ hless
  | dirtied _ _ c _ _ _ hcontext => exact hI.setContext (c' := { c with dirty := true }) hcontext rfl
  | hostDone => exact hI.freePort
  | fillWordDone => exact hI.freePort
  | diagTaken claim _ haddress =>
    exact ⟨hmigration, htenure, fun d hd => Option.mem_some.mp hd ▸ haddress, hcursor, hstep⟩
  | diagDone => exact hI.freePort
  | migrationTenureDone => exact hI.freePort
  | contextStep c c' _ _ _ hcontext _ hctx => exact hI.freePort.setContext hcontext hctx.source
  | targetReplaced c p d k hcontext =>
    exact hI.freePort.setContext (c' := { c with target := k, dirty := false, phase := _ }) hcontext rfl
  | migrationEnds => exact hI.endContext
  | installed => exact hI.endContext
  | installedAgain => exact hI.endContext
  | orphaned => exact hI.endContext
  | _ => exact hI

theorem StartMove.addressesExist (h : StartMove s t) (hL : s.LogicalsExist) (hI : s.AddressesExist) :
    t.AddressesExist := by
  cases h with
  | withSlot r rest k hqueue =>
    obtain ⟨-, hretq, -⟩ := hL
    refine ⟨fun x hx => ?_, hI.2⟩
    obtain rfl := Option.mem_some.mp hx
    exact State.forward_lt_W (hretq r (by simp [hqueue]))
  | withoutSlot => exact hI

theorem exec_accessSound {c : Instr} (h : exec c s = .next t) (hI : s.AccessSound) : t.AccessSound :=
  exec_keeps (fun hmove ⟨hQ, hL, hA⟩ => ⟨hmove.queueSound hQ, hmove.logicalsExist hL, hmove.addressesExist hA⟩)
    (fun hstart ⟨hQ, hL, hA⟩ => ⟨hstart.queueSound hQ, hstart.logicalsExist hL, hstart.addressesExist hL hA⟩) h hI

/-! ### Every row answers -/

/-- The result is a next state. -/
def Answers (r : Result) : Prop := ∃ t, r = .next t

theorem answers_next (t : State) : Answers (.next t) := ⟨t, rfl⟩

theorem answers_whileRunning (s t : State) : Answers (whileRunning s t) := ⟨_, rfl⟩

theorem answers_atArray {p : Nat} (hp : p < s.W) (t : State) : Answers (atArray s p (whileRunning s t)) := by
  rw [atArray_of_lt hp]
  exact answers_whileRunning s t

/-- The address of a beat of the place in tenure exists (R143). -/
theorem State.QueueSound.beatAddress_lt (hQ : s.QueueSound) {pl : Place} (hplace : s.placeInTenure = some pl) {i : Nat}
    (hi : i < pl.request.beatCount) : s.forward (pl.request.beatAddress i) < s.W := by
  obtain ⟨hrange, -⟩ := hQ.request_inTenure hplace
  exact State.forward_lt_W (by unfold Request.beatAddress; omega)

theorem answers_hostReadBeat (hQ : s.QueueSound) : Answers (execHostReadBeat s) := by
  unfold execHostReadBeat
  split
  · exact answers_next s
  · next pl hpl =>
    dsimp only
    split
    · next hread => exact answers_atArray (hQ.beatAddress_lt (hostTenurePlace_some.mp hpl).2 hread.2) _
    · exact answers_next s

/-- The beat of a write in tenure is at an address that exists. -/
theorem State.QueueSound.writeBeat_lt (hQ : s.QueueSound) {pl : Place} (hpl : s.hostTenurePlace = some pl) {b : WriteBeat}
    {i : Nat} (hb : pl.request.beats[i]? = some b) : s.forward (pl.request.beatAddress i) < s.W := by
  obtain ⟨-, hplace⟩ := hostTenurePlace_some.mp hpl
  obtain ⟨hi, -⟩ := List.getElem?_eq_some_iff.mp hb
  exact hQ.beatAddress_lt hplace (hi.trans_le (hQ.request_inTenure hplace).beats_le)

theorem answers_hostWriteBeat (hQ : s.QueueSound) : Answers (execHostWriteBeat s) := by
  unfold execHostWriteBeat
  split
  · exact answers_next s
  · next pl hpl =>
    dsimp only
    split
    · exact answers_next s
    · next b hb =>
      split
      · exact answers_atArray (hQ.writeBeat_lt hpl hb) _
      · exact answers_next s

theorem answers_hostMergeBeat (hQ : s.QueueSound) : Answers (execHostMergeBeat s) := by
  unfold execHostMergeBeat
  split
  · exact answers_next s
  · next pl hpl =>
    dsimp only
    split
    · exact answers_next s
    · next b hb =>
      split
      · exact answers_atArray (hQ.writeBeat_lt hpl hb) _
      · exact answers_next s

theorem answers_hostTenureCompletion (s : State) : Answers (execHostTenureCompletion s) := by
  unfold execHostTenureCompletion
  split
  · exact answers_next s
  · dsimp only
    split
    · exact answers_whileRunning s _
    · exact answers_next s

theorem answers_scrubDecode (hA : s.AddressesExist) : Answers (execScrubDecode s) := by
  obtain ⟨-, -, -, -, hstep⟩ := hA
  unfold execScrubDecode
  split
  · split
    · exact answers_next s
    · next st hst =>
      split
      · exact answers_next s
      · exact answers_atArray (hstep st hst) _
  · exact answers_next s

theorem answers_scrubStepCompletion (s : State) : Answers (execScrubStepCompletion s) := by
  unfold execScrubStepCompletion
  split
  · split
    · exact answers_next s
    · split
      · exact answers_whileRunning s _
      · exact answers_next s
  · exact answers_next s

/-- The completion rows of the tenures that hold their address. -/
theorem answers_completion (hA : s.AddressesExist) :
    Answers (execCopyReadCompletion s) ∧ Answers (execCopyWriteCompletion s) ∧ Answers (execVerifyCompletion s) ∧
      Answers (execFillWordCompletion s) ∧ Answers (execPeekCompletion s) ∧ Answers (execPokeCompletion s) := by
  obtain ⟨-, htenure, -⟩ := hA
  unfold execCopyReadCompletion execCopyWriteCompletion execVerifyCompletion execFillWordCompletion execPeekCompletion
    execPokeCompletion
  cases hs : s.seq.tenure with
  | none | host | scrub => exact ⟨answers_next s, answers_next s, answers_next s, answers_next s, answers_next s, answers_next s⟩
  | migration phase p d live =>
    have hp : p < s.W := htenure p (by rw [hs]; rfl)
    cases phase
    · exact ⟨answers_atArray hp _, answers_next s, answers_next s, answers_next s, answers_next s, answers_next s⟩
    · exact ⟨answers_next s, answers_atArray hp _, answers_next s, answers_next s, answers_next s, answers_next s⟩
    · exact ⟨answers_next s, answers_next s, answers_atArray hp _, answers_next s, answers_next s, answers_next s⟩
  | peek p =>
    have hp : p < s.W := htenure p (by rw [hs]; rfl)
    exact ⟨answers_next s, answers_next s, answers_next s, answers_next s, answers_atArray hp _, answers_next s⟩
  | poke p w =>
    have hp : p < s.W := htenure p (by rw [hs]; rfl)
    exact ⟨answers_next s, answers_next s, answers_next s, answers_next s, answers_next s, answers_atArray hp _⟩
  | fill p =>
    have hp : p < s.W := htenure p (by rw [hs]; rfl)
    exact ⟨answers_next s, answers_next s, answers_next s, answers_atArray hp _, answers_next s, answers_next s⟩

theorem answers_requestTaken (header : BitVec 32) (b0 b1 b2 b3 : BitVec 72) (s : State) :
    Answers (execRequestTaken header b0 b1 b2 b3 s) := by
  unfold execRequestTaken
  dsimp only
  split <;> exact answers_next _

theorem answers_heldRequestTaken (s : State) : Answers (execHeldRequestTaken s) := by
  unfold execHeldRequestTaken
  split <;> exact answers_next _

theorem answers_responseTaken (s : State) : Answers (execResponseTaken s) := by
  unfold execResponseTaken
  split
  · exact answers_next s
  · split
    · exact answers_whileRunning s _
    · exact answers_next s

theorem answers_grantDecision (s : State) : Answers (execGrantDecision s) := by
  unfold execGrantDecision
  split
  · split
    · exact answers_whileRunning s _
    · exact answers_next s
  · exact answers_next s

theorem answers_recordOffer (src : OfferSource) (s : State) : Answers (execRecordOffer src s) := by
  unfold execRecordOffer
  split
  · exact answers_next s
  · exact answers_whileRunning s _

theorem answers_ceReport (src : ReportSource) (s : State) : Answers (execCeReport src s) := by
  unfold execCeReport
  split
  · exact answers_next s
  · exact answers_whileRunning s _

theorem answers_microsecondTick (s : State) : Answers (execMicrosecondTick s) := by
  unfold execMicrosecondTick
  split
  · exact answers_whileRunning s _
  · exact answers_next s

theorem answers_intervalExpiry (s : State) : Answers (execIntervalExpiry s) := by
  unfold execIntervalExpiry
  split
  · exact answers_next s
  · split
    · split <;> exact answers_whileRunning s _
    · exact answers_next s

theorem answers_migrationStart (s : State) : Answers (execMigrationStart s) := by
  unfold execMigrationStart
  split
  · exact answers_next s
  · split
    · exact answers_whileRunning s _
    · exact answers_next s

theorem answers_unknownCommand (code : BitVec 8) (s : State) : Answers (execUnknownCommand code s) := by
  unfold execUnknownCommand
  split <;> exact answers_next _

theorem answers_unknownFrameKind (kind : BitVec 8) (s : State) : Answers (execUnknownFrameKind kind s) := by
  unfold execUnknownFrameKind
  split
  · exact answers_next s
  · dsimp only
    split <;> exact answers_next _

theorem exec_answers (c : Instr) (hI : s.AccessSound) : Answers (exec c s) := by
  obtain ⟨hQ, -, hA⟩ := hI
  obtain ⟨hcopyRead, hcopyWrite, hverify, hfill, hpeek, hpoke⟩ := answers_completion hA
  cases c with
  | requestTaken header b0 b1 b2 b3 => exact answers_requestTaken header b0 b1 b2 b3 s
  | heldRequestTaken => exact answers_heldRequestTaken s
  | responseTaken => exact answers_responseTaken s
  | grantDecision => exact answers_grantDecision s
  | hostReadBeat => exact answers_hostReadBeat hQ
  | hostWriteBeat => exact answers_hostWriteBeat hQ
  | hostMergeBeat => exact answers_hostMergeBeat hQ
  | hostTenureCompletion => exact answers_hostTenureCompletion s
  | recordOffer src => exact answers_recordOffer src s
  | ceReport src => exact answers_ceReport src s
  | microsecondTick => exact answers_microsecondTick s
  | intervalExpiry => exact answers_intervalExpiry s
  | scrubDecode => exact answers_scrubDecode hA
  | scrubStepCompletion => exact answers_scrubStepCompletion s
  | migrationStart => exact answers_migrationStart s
  | copyReadCompletion => exact hcopyRead
  | copyWriteCompletion => exact hcopyWrite
  | verifyCompletion => exact hverify
  | fillWordCompletion => exact hfill
  | peekCompletion => exact hpeek
  | pokeCompletion => exact hpoke
  | unknownCommand code => exact answers_unknownCommand code s
  | unknownFrameKind kind => exact answers_unknownFrameKind kind s
  | _ => exact answers_next _

theorem step_accessSound (hI : s.AccessSound) : ∃ t, step s = .next t ∧ t.AccessSound := by
  unfold step
  split
  · exact ⟨s, rfl, hI⟩
  · next c rest _ =>
    obtain ⟨t, ht⟩ := exec_answers (s := { s with pending := rest }) c hI
    exact ⟨t, ht, exec_accessSound ht hI⟩

theorem safeRun_of_accessSound (n : Nat) (hI : s.AccessSound) : SafeRun n s := by
  induction n generalizing s with
  | zero => trivial
  | succ n ih =>
    obtain ⟨t, ht, hsound⟩ := step_accessSound hI
    exact ⟨t, ht, ih hsound⟩

/-- Settles O59: every access is at a forward lookup below H, a tenure's own address or a step's target, and the moves keep
all of them within the array. -/
theorem everyAccessExists : Obligations.EveryAccessExists := by
  refine ⟨fun c s hI => ?_, fun n s hI => safeRun_of_accessSound n hI⟩
  obtain ⟨t, ht⟩ := exec_answers c hI
  exact ⟨t, ht, exec_accessSound ht hI⟩

end Sys2Proof.Machine

/-! ## The Watch List, the table, the queue and the migration: O58 -/

namespace Sys2Proof.Machine

variable {resets : Bool} {stores : Option Nat} {s t : State}

/-! ### The lookups after a change of the table -/

/-- The reverse lookup is the inverse of the forward one (R25, R27). -/
theorem State.PoolAgrees.owner_iff_forward (hP : s.PoolAgrees) (hL : s.LogicalsExist) {p l : Nat} :
    s.owner p = some l ↔ l < s.H ∧ s.forward l = p := by
  constructor
  · intro howner
    refine ⟨hL.owner_lt howner, ?_⟩
    obtain ⟨-, hmapped, rfl⟩ | ⟨k, e, rfl, -, he, rfl⟩ := State.owner_eq_some.mp howner
    · exact State.forward_of_unmapped hmapped
    · exact State.forward_of_mapped (hP.mappedSlot_of_entry he)
  · rintro ⟨hl, rfl⟩
    exact hP.owner_forward hl

/-- A word keeps its owner where the owner keeps its word. -/
theorem State.owner_keeps (hP : s.PoolAgrees) (hL : s.LogicalsExist) (hP' : t.PoolAgrees) (hL' : t.LogicalsExist)
    (hH : t.H = s.H) {p l : Nat} (hforward : t.forward l = s.forward l) (howner : s.owner p = some l) :
    t.owner p = some l := by
  rw [hP.owner_iff_forward hL] at howner
  rw [hP'.owner_iff_forward hL', hH, hforward]
  exact howner

theorem State.entryNames_eq_false {l : Nat} {k : Fin 64} :
    s.entryNames l k = false ↔ ∀ d ∈ s.tu.table[k], d.logical ≠ l := by
  unfold State.entryNames
  split
  · next d hd => simp [hd]
  · next hd => simp [hd]

/-- An address whose entry is not touched keeps its forward lookup. -/
theorem State.forward_setEntry {k : Fin 64} {e : Option RepairEntry} {l : Nat}
    (hold : ∀ d ∈ s.tu.table[k], d.logical ≠ l) (hnew : ∀ d ∈ e, d.logical ≠ l) :
    (s.setEntry k e).forward l = s.forward l := by
  have hnames : (s.setEntry k e).entryNames l = s.entryNames l := by
    funext j
    by_cases hj : k = j
    · subst hj
      rw [State.entryNames_eq_false.mpr hold, State.entryNames_eq_false, State.setEntry_table, if_pos rfl]
      exact hnew
    · unfold State.entryNames
      rw [State.setEntry_table, if_neg hj]
  have hmapped : (s.setEntry k e).mappedSlot l = s.mappedSlot l := by
    unfold State.mappedSlot
    rw [hnames]
  unfold State.forward
  rw [hmapped]
  rfl

/-! ### The invariant in two parts -/

/-- A watched word's owner exists, is held in the queue when the entry is QUEUED, and is the active migration's when it is
MIGRATING (R78, R79). -/
def State.agreesAt (s : State) (p : Nat) (st : WatchState) : Prop :=
  (s.owner p).isSome = true ∧
  (st = .queued → ∃ l ∈ s.owner p, l ∈ s.retq.map (·.logical)) ∧
  (st = .migrating → s.migration.map (·.source) = some p)

/-- What WatchAgrees says but for the DUE entries: the part that holds between a start and its offers. -/
def State.WatchCore (s : State) : Prop :=
  s.PoolAgrees ∧ s.LogicalsExist ∧ s.RetirementSound ∧ s.WatchSound ∧
  (∀ c ∈ s.migration, c.source = s.forward c.logical) ∧
  ∀ e ∈ s.watch, s.agreesAt e.physical e.state

/-- A DUE entry waits for a full queue (R84, R85). -/
def State.DueWaits (s : State) : Prop := ∀ e ∈ s.watch, e.state = .due → s.retq.length = 4

theorem watchAgrees_iff : s.WatchAgrees ↔ s.WatchCore ∧ s.DueWaits := by
  constructor
  · rintro ⟨hP, hL, hR, hW, hsource, hentry⟩
    exact ⟨⟨hP, hL, hR, hW, hsource, fun e he => ⟨(hentry e he).1, (hentry e he).2.1, (hentry e he).2.2.1⟩⟩,
      fun e he => (hentry e he).2.2.2⟩
  · rintro ⟨⟨hP, hL, hR, hW, hsource, hentry⟩, hdue⟩
    exact ⟨hP, hL, hR, hW, hsource,
      fun e he => ⟨(hentry e he).1, (hentry e he).2.1, (hentry e he).2.2, hdue e he⟩⟩

theorem State.agreesAt.of_settled {p : Nat} {st : WatchState} (howner : (s.owner p).isSome = true)
    (hst : st ≠ .queued ∧ st ≠ .migrating) : s.agreesAt p st :=
  ⟨howner, fun h => absurd h hst.1, fun h => absurd h hst.2⟩

/-- An entry keeps agreeing where its owner is kept, and stays in the queue or in migration where the entry says so. -/
theorem State.agreesAt.transfer {p : Nat} {st : WatchState} (h : s.agreesAt p st)
    (howner : ∀ l, s.owner p = some l → t.owner p = some l)
    (hqueue : ∀ l, s.owner p = some l → st = .queued → l ∈ s.retq.map (·.logical) → l ∈ t.retq.map (·.logical))
    (hmigrating : st = .migrating → s.migration.map (·.source) = some p → t.migration.map (·.source) = some p) :
    t.agreesAt p st := by
  obtain ⟨hsome, hqueued, hsource⟩ := h
  obtain ⟨l, hl⟩ := Option.isSome_iff_exists.mp hsome
  refine ⟨Option.isSome_iff_exists.mpr ⟨l, howner l hl⟩, fun hst => ?_, fun hst => hmigrating hst (hsource hst)⟩
  obtain ⟨l', hl', hmem⟩ := hqueued hst
  exact ⟨l', howner l' hl', hqueue l' hl' hst hmem⟩

/-- An entry put in a state that it may have agrees (R79, R84). -/
theorem State.WatchCore.agreesAt_of_mayBecome (hI : s.WatchCore) {p : Nat} {st : WatchState}
    (howner : (s.owner p).isSome = true) (hst : s.mayBecome p st) : s.agreesAt p st := by
  obtain ⟨hP, hL, -, -, hsource, -⟩ := hI
  cases st with
  | counting | due | stuck => exact .of_settled howner (by decide)
  | queued =>
    obtain ⟨l, hl, hword⟩ := hst
    rw [queuedForRetirement_iff] at hl
    refine ⟨howner, fun _ => ⟨l, ?_, hl⟩, nofun⟩
    obtain hword | rfl := hword
    · exact hword
    · obtain ⟨r, hr, rfl⟩ := List.mem_map.mp hl
      exact hP.owner_forward (hL.2.1 r hr)
  | migrating =>
    obtain ⟨l, hl, hword⟩ := hst
    obtain ⟨c, hc, rfl⟩ := migrating_iff.mp hl
    obtain ⟨-, hforward⟩ := (hP.owner_iff_forward hL).mp hword
    exact ⟨howner, nofun, fun _ => by rw [Option.mem_def.mp hc, Option.map_some, hsource c hc, hforward]⟩

/-- Every entry agrees after a change of the table that moves at most l's word, which is not watched, and leaves the
migration's source where it is. -/
theorem State.WatchCore.moveWord (hI : s.WatchCore) (hP' : t.PoolAgrees) (hL' : t.LogicalsExist) (hH : t.H = s.H) {l : Nat}
    (hforward : ∀ x, x ≠ l → t.forward x = s.forward x) (hwatch : ∀ e ∈ s.watch, e.physical ≠ s.forward l)
    (hretq : t.retq = s.retq)
    (hmigration : t.migration = s.migration ∨ t.migration = none ∧ ∀ e ∈ s.watch, e.state ≠ .migrating) :
    ∀ e ∈ s.watch, t.agreesAt e.physical e.state := by
  obtain ⟨hP, hL, -, -, -, hentry⟩ := hI
  intro e he
  refine (hentry e he).transfer (fun x hx => ?_) (fun x _ _ => by rw [hretq]; exact id) fun hst => ?_
  · refine State.owner_keeps hP hL hP' hL' hH (hforward x ?_) hx
    rintro rfl
    exact hwatch e he ((hP.owner_iff_forward hL).mp hx).2.symm
  · obtain hsame | ⟨-, hnone⟩ := hmigration
    · rw [hsame]
      exact id
    · exact absurd hst (hnone e he)

/-- No entry is MIGRATING when the source of the migration is not, and none without a migration (R79). -/
theorem State.WatchCore.not_migrating (hI : s.WatchCore)
    (hwatch : ∀ c ∈ s.migration, ∀ e ∈ s.watch, e.physical = c.source → e.state ≠ .migrating) :
    ∀ e ∈ s.watch, e.state ≠ .migrating := by
  intro e he hst
  obtain ⟨-, -, -, -, -, hentry⟩ := hI
  obtain ⟨c, hc, hphysical⟩ := Option.map_eq_some_iff.mp ((hentry e he).2.2 hst)
  exact hwatch c hc e he hphysical.symm hst

/-- Entries keep agreeing through a change of idle slots, of a context's progress, or the end of a context that no entry is
MIGRATING for. -/
theorem State.WatchCore.sameWords (hI : s.WatchCore) (hP' : t.PoolAgrees) (hL' : t.LogicalsExist) (hH : t.H = s.H)
    (hforward : ∀ x, t.forward x = s.forward x) (hretq : t.retq = s.retq)
    (hmigration : t.migration.map (·.source) = s.migration.map (·.source) ∨ ∀ e ∈ s.watch, e.state ≠ .migrating) :
    ∀ e ∈ s.watch, t.agreesAt e.physical e.state := by
  obtain ⟨hP, hL, -, -, -, hentry⟩ := hI
  intro e he
  refine (hentry e he).transfer (fun x hx => State.owner_keeps hP hL hP' hL' hH (hforward x) hx)
    (fun x _ _ => by rw [hretq]; exact id) fun hst => ?_
  obtain hsame | hnone := hmigration
  · rw [hsame]
    exact id
  · exact absurd hst (hnone e he)

/-! ### The moves keep the core -/

/-- The source and the entries after a move; the other parts have lemmas of their own. -/
theorem Move.watchEntries (h : Move resets stores s t) (hI : s.WatchCore) (hP' : t.PoolAgrees) (hL' : t.LogicalsExist) :
    (∀ c ∈ t.migration, c.source = t.forward c.logical) ∧ ∀ e ∈ t.watch, t.agreesAt e.physical e.state := by
  obtain ⟨hP, hL, hR, hW, hsource, hentry⟩ := id hI
  cases h with
  | resetRise => exact ⟨nofun, nofun⟩
  | dirtied _ _ c _ _ _ hcontext =>
    refine ⟨fun x hx => ?_, hI.sameWords hP' hL' rfl (fun _ => rfl) rfl (.inl (by rw [hcontext]; rfl))⟩
    obtain rfl := Option.mem_some.mp hx
    exact hsource c hcontext
  | contextStep c c' _ _ _ hcontext _ hstep =>
    refine ⟨fun x hx => ?_, hI.sameWords hP' hL' rfl (fun _ => rfl) rfl (.inl ?_)⟩
    · obtain rfl := Option.mem_some.mp hx
      rw [hstep.source, hstep.logical]
      exact hsource c hcontext
    · rw [hcontext]
      exact congrArg some hstep.source
  | targetReplaced c p d k hcontext =>
    refine ⟨fun x hx => ?_, hI.sameWords hP' hL' rfl (fun _ => rfl) rfl (.inl (by rw [hcontext]; rfl))⟩
    obtain rfl := Option.mem_some.mp hx
    exact hsource c hcontext
  | migrationEnds c st hcontext _ hwatch =>
    refine ⟨nofun, hI.sameWords hP' hL' rfl (fun _ => rfl) rfl (.inr (hI.not_migrating fun x hx => ?_))⟩
    cases hcontext.symm.trans hx
    exact hwatch
  | installed c hcontext hunmapped hwatch =>
    have hnone := hI.not_migrating fun x hx e he hp => by
      cases hcontext.symm.trans hx
      exact absurd hp (hwatch e he)
    rw [hsource c hcontext] at hwatch
    refine ⟨nofun, hI.moveWord hP' hL' rfl (fun x hx => ?_) hwatch rfl (.inr ⟨rfl, hnone⟩)⟩
    have htable := hP.target_table hcontext
    exact State.forward_setEntry (e := some ⟨c.logical, .migrated, 1⟩) (by simp [htable])
      fun d hd => Option.mem_some.mp hd ▸ hx.symm
  | installedAgain c old moves hcontext hmapped _ hwatch =>
    have hnone := hI.not_migrating fun x hx e he hp => by
      cases hcontext.symm.trans hx
      exact absurd hp (hwatch e he)
    rw [hsource c hcontext] at hwatch
    refine ⟨nofun, hI.moveWord hP' hL' rfl (fun x hx => ?_) hwatch rfl (.inr ⟨rfl, hnone⟩)⟩
    have htable := hP.target_table hcontext
    obtain ⟨e, he, hl⟩ := State.mappedSlot_some hmapped
    have hgone : (s.setEntry old none).forward x = s.forward x :=
      State.forward_setEntry (by rw [he]; intro d hd; exact Option.mem_some.mp hd ▸ hl ▸ hx.symm) nofun
    refine Eq.trans ?_ hgone
    refine State.forward_setEntry (s := s.setEntry old none) (e := some ⟨c.logical, .migrated, moves⟩) ?_
      fun d hd => Option.mem_some.mp hd ▸ hx.symm
    rw [State.setEntry_table, htable]
    simp
  | mapped l k hl hunmapped hfree hmigrating hqueued hwatch =>
    have htable := hP.idle_table (k := k) (by rw [hfree]; rfl)
    have hforward (x : Nat) (hx : x ≠ l) : (s.setEntry k (some ⟨l, .loaded, 0⟩)).forward x = s.forward x :=
      State.forward_setEntry (by simp [htable]) fun d hd => Option.mem_some.mp hd ▸ hx.symm
    refine ⟨fun c hc => ?_, hI.moveWord hP' hL' rfl hforward ?_ rfl (.inl rfl)⟩
    · exact (hsource c hc).trans (hforward _ (not_migrating_iff.mp hmigrating c hc)).symm
    · rwa [State.forward_of_unmapped hunmapped]
  | unmapped l k hmapped hmigrating hwatch =>
    obtain ⟨e, he, hl⟩ := State.mappedSlot_some hmapped
    have hforward (x : Nat) (hx : x ≠ l) : (s.setEntry k none).forward x = s.forward x :=
      State.forward_setEntry (by rw [he]; intro d hd; exact Option.mem_some.mp hd ▸ hl ▸ hx.symm) nofun
    refine ⟨fun c hc => ?_, hI.moveWord hP' hL' rfl hforward ?_ rfl (.inl rfl)⟩
    · exact (hsource c hc).trans (hforward _ (not_migrating_iff.mp hmigrating c hc)).symm
    · rwa [State.forward_of_mapped hmapped]
  | slotMoved => exact ⟨hsource, hI.sameWords hP' hL' rfl (fun _ => rfl) rfl (.inl rfl)⟩
  | watchRemoved w hw => exact ⟨hsource, fun e he => hentry e (hw.subset he)⟩
  | watchInserted w p hw _ _ howner =>
    refine ⟨hsource, fun e he => ?_⟩
    obtain he | rfl := List.mem_append.mp he |>.imp_right List.mem_singleton.mp
    · exact hentry e (hw.subset he)
    · exact .of_settled howner (by simp)
  | watchCounted p =>
    refine ⟨hsource, List.forall_mem_map.mpr fun e he => ?_⟩
    split <;> exact hentry e he
  | watchState p st hst =>
    refine ⟨hsource, List.forall_mem_map.mpr fun e he => ?_⟩
    split
    · next hp => exact hI.agreesAt_of_mayBecome (hentry e he).1 (hp ▸ hst)
    · exact hentry e he
  | watchReleased =>
    refine ⟨hsource, List.forall_mem_map.mpr fun e he => ?_⟩
    split
    · exact .of_settled (hentry e he).1 (by simp)
    · exact hentry e he
  | retirementQueued l origin =>
    refine ⟨hsource, fun e he => (hentry e he).transfer (fun _ => id) (fun x _ _ hx => ?_) fun _ => id⟩
    rw [List.map_append]
    exact List.mem_append_left _ hx
  | retirementsCleared hwatch => exact ⟨hsource, fun e he => by simp [hwatch] at he⟩
  | orphaned hmigration =>
    refine ⟨nofun, hI.sameWords hP' hL' rfl (fun _ => rfl) rfl (.inl (by rw [hmigration]; rfl))⟩
  | _ => exact ⟨hsource, hentry⟩

theorem Move.watchCore (h : Move resets stores s t) (hI : s.WatchCore) : t.WatchCore := by
  obtain ⟨hP, hL, hR, hW, -⟩ := id hI
  have hP' := h.poolAgrees hP
  have hL' := h.logicalsExist hL
  exact ⟨hP', hL', h.retirementSound hR, h.watchSound hW, h.watchEntries hI hP' hL'⟩

theorem Move.dueWaits (h : Move resets stores s t) (hI : s.WatchCore) (hD : s.DueWaits) : t.DueWaits := by
  obtain ⟨-, -, ⟨hlength, -⟩, -, -, hentry⟩ := hI
  cases h with
  | resetRise => exact nofun
  | watchRemoved w hw => exact fun e he => hD e (hw.subset he)
  | watchInserted w p hw =>
    intro e he hst
    obtain he | rfl := List.mem_append.mp he |>.imp_right List.mem_singleton.mp
    · exact hD e (hw.subset he) hst
    · cases hst
  | watchCounted p =>
    refine List.forall_mem_map.mpr fun e he => ?_
    split <;> exact hD e he
  | watchState p st hst =>
    refine List.forall_mem_map.mpr fun e he => ?_
    split
    · next hp =>
      rintro rfl
      obtain hnone | hfull := hst
      · rw [← hp] at hnone
        exact absurd (hentry e he).1 (by simp [hnone])
      · exact Nat.le_antisymm hlength hfull
    · exact hD e he
  | watchReleased =>
    refine List.forall_mem_map.mpr fun e he => ?_
    split
    · nofun
    · exact hD e he
  | retirementQueued l origin hspace => exact fun e he hst => absurd (hD e he hst) hspace.ne
  | retirementsCleared hwatch => exact fun e he => by simp [hwatch] at he
  | _ => exact hD

/-! ### A migration start, and the offers after it -/

theorem StartMove.watchCore (h : StartMove s t) (hI : s.WatchCore) : t.WatchCore := by
  obtain ⟨hP, hL, hR, hW, hsource, hentry⟩ := id hI
  have hP' := h.poolAgrees hP
  have hL' := h.logicalsExist hL
  refine ⟨hP', hL', h.retirementSound hR, h.watchSound hW, ?_⟩
  have hkept {r : RetireRequest} {rest : List RetireRequest} (hretq : s.retq = r :: rest) {p l : Nat}
      (hp : p ≠ s.forward r.logical) (howner : s.owner p = some l) (hl : l ∈ s.retq.map (·.logical)) :
      l ∈ rest.map (·.logical) := by
    rw [hretq, List.map_cons, List.mem_cons] at hl
    refine hl.resolve_left ?_
    rintro rfl
    exact hp ((hP.owner_iff_forward hL).mp howner).2.symm
  cases h with
  | withSlot r rest k hretq hmigration =>
    refine ⟨fun c hc => by obtain rfl := Option.mem_some.mp hc; rfl, List.forall_mem_map.mpr fun e he => ?_⟩
    have howner (l : Nat) (hl : s.owner e.physical = some l) := State.owner_keeps hP hL hP' hL' rfl rfl hl
    split
    · next hp =>
      obtain ⟨l, hl⟩ := Option.isSome_iff_exists.mp (hentry e he).1
      exact ⟨Option.isSome_iff_exists.mpr ⟨l, howner l hl⟩, nofun, fun _ => by rw [hp]; rfl⟩
    · next hp =>
      exact (hentry e he).transfer howner (fun l hl _ => hkept hretq hp hl) fun _ h => by simp [hmigration] at h
  | withoutSlot r rest hretq hmigration =>
    refine ⟨hsource, List.forall_mem_map.mpr fun e he => ?_⟩
    split
    · exact .of_settled (hentry e he).1 (by simp)
    · next hp =>
      exact (hentry e he).transfer (fun _ => id) (fun l hl _ => hkept hretq hp hl) fun _ => id

/-- The offer of a watched word's entry leaves it MIGRATING or QUEUED while the queue has space, and leaves the others as
they are. -/
theorem offerDue_due {p : Nat} (howner : (s.owner p).isSome = true) (hspace : s.retq.length < 4) :
    ∀ e ∈ (s.offerDue p).watch, e.state = .due → e ∈ s.watch ∧ e.physical ≠ p := by
  obtain ⟨l, hl⟩ := Option.isSome_iff_exists.mp howner
  have hset {st : WatchState} (hst : st ≠ .due) :
      ∀ e ∈ (s.setWatch p st).watch, e.state = .due → e ∈ s.watch ∧ e.physical ≠ p := by
    refine List.forall_mem_map.mpr fun e he => ?_
    split
    · exact fun h => absurd h hst
    · next hp => exact fun _ => ⟨he, hp⟩
  unfold State.offerDue
  rw [hl]
  dsimp only
  split_ifs with hmigrating hqueued hfull
  · exact hset (by decide)
  · exact hset (by decide)
  · exact hset (st := .queued) (by decide)
  · exact absurd hspace hfull

/-- Once DUE entries have been offered in turn, those left stand behind a full queue. -/
theorem foldl_offerDue_dueWaits (l : List WatchEntry) (howner : ∀ e ∈ l, (s.owner e.physical).isSome = true)
    (hdue : ∀ e ∈ s.watch, e.state = .due → e ∈ l ∨ 4 ≤ s.retq.length) :
    ∀ e ∈ (l.foldl (fun t e => if t.retq.length < Config.retirePlaces then t.offerDue e.physical else t) s).watch,
      e.state = .due →
        4 ≤ (l.foldl (fun t e => if t.retq.length < Config.retirePlaces then t.offerDue e.physical else t) s).retq.length := by
  induction l generalizing s with
  | nil => exact fun e he hst => (hdue e he hst).resolve_left (List.not_mem_nil)
  | cons d l ih =>
    obtain ⟨hd, hl⟩ := List.forall_mem_cons.mp howner
    rw [List.foldl_cons]
    split
    · next hspace =>
      obtain ⟨w, r, hframe⟩ := s.offerDue_frame d.physical
      refine ih (fun e he => ?_) fun e he hst => ?_
      · rw [hframe]
        exact hl e he
      · obtain ⟨hwatched, hp⟩ := offerDue_due hd hspace e he hst
        obtain hmem | hfull := hdue e hwatched hst
        · exact .inl ((List.mem_cons.mp hmem).resolve_left fun h => hp (by rw [h]))
        · exact absurd hspace (Nat.not_lt.mpr hfull)
    · next hfull => exact ih hl fun e he hst => .inr (Nat.not_lt.mp hfull)

theorem State.WatchCore.offerDueEntries_dueWaits (hI : s.WatchCore) : s.offerDueEntries.DueWaits := by
  have hafter : s.offerDueEntries.WatchCore :=
    moves_keep Move.watchCore (moves_offerDueEntries (resets := false) (stores := none)) hI
  obtain ⟨-, -, ⟨hlength, -⟩, -⟩ := hafter
  obtain ⟨-, -, -, -, -, hentry⟩ := hI
  refine fun e he hst => Nat.le_antisymm hlength (foldl_offerDue_dueWaits _ ?_ ?_ e he hst)
  · exact fun d hd => (hentry d (List.mem_filter.mp hd).1).1
  · exact fun d hd hst => .inl (List.mem_filter.mpr ⟨hd, by simpa using hst⟩)

/-- Settles O58: a move of a word's address finds that address not watched, an entry changes its state only to one that
agrees, and the offers after a start leave no DUE entry with space in the queue. -/
theorem watchKeepsAgreeing : Obligations.WatchKeepsAgreeing := by
  intro s t hI h
  rw [watchAgrees_iff] at hI ⊢
  refine step_keeps (I := fun s => s.WatchCore ∧ s.DueWaits) (fun _ _ hI => hI) ?_ h hI
  refine fun {c s t} h hI => exec_keeps_of_start (I := fun s => s.WatchCore ∧ s.DueWaits)
    (fun hmove hI => ⟨hmove.watchCore hI.1, hmove.dueWaits hI.1 hI.2⟩) (fun hstart hI => ?_) h hI
  have hcore := hstart.watchCore hI.1
  exact ⟨moves_keep Move.watchCore (moves_offerDueEntries (resets := false) (stores := none)) hcore,
    hcore.offerDueEntries_dueWaits⟩

end Sys2Proof.Machine

/-! ## The step, the resets and the invariants at reset: O1, O3, O4, O60 -/

namespace Sys2Proof.Machine

variable {s t : State}

/-- Settles O1: the two cases of the step's definition. -/
theorem stepRunsFrontCommand : Obligations.StepRunsFrontCommand := by
  refine ⟨fun _ _ _ => rfl, fun s hpending => ?_⟩
  rw [step, hpending]

/-! ### RESET_N low (R58) -/

theorem State.driveLow_array (s : State) (midWrite : Bool) :
    (s.driveLow midWrite).array = (s.cutArray midWrite).array ∧
      (s.driveLow midWrite).freeCount = (s.cutArray midWrite).freeCount := ⟨rfl, rfl⟩

/-- The cut-off touches the array and the number of free values read, and no more. -/
theorem State.cutArray_frame (s : State) (midWrite : Bool) :
    s.cutArray midWrite =
      { s with array := (s.cutArray midWrite).array, freeCount := (s.cutArray midWrite).freeCount } := by
  unfold State.cutArray
  split <;> rfl

theorem State.cutArray_none {midWrite : Bool} (h : s.cutWord midWrite = none) : s.cutArray midWrite = s := by
  simp only [State.cutArray, h]

theorem State.cutArray_some {midWrite : Bool} {p : Nat} (h : s.cutWord midWrite = some p) :
    s.cutArray midWrite =
      { s.store p (Config.undefinedWord s.freeCount) with freeCount := s.freeCount + 1 } := by
  simp only [State.cutArray, h]

/-- RESET_N at its fall: what goes, and what stays. -/
theorem State.driveLow_eq (s : State) (midWrite : Bool) :
    s.driveLow midWrite = { s with
      pins := { s.pins with resetLow := true },
      array := (s.driveLow midWrite).array, freeCount := (s.driveLow midWrite).freeCount,
      seq := { s.seq with tenure := .none }, queue := [], offers := [], reports := [],
      mgmt := { s.mgmt with frame := .idle, diagClaim := none } } := by
  unfold State.driveLow
  rw [s.cutArray_frame midWrite]

/-- The beats after the skipped ones: the next one has a mask other than 00h (R50). -/
theorem Place.mask_afterSkips {p : Place} {b : WriteBeat} (hb : p.request.beats[p.afterSkips.length]? = some b) :
    b.mask ≠ 0 := by
  have hsplit := List.takeWhile_append_dropWhile (p := fun x : WriteBeat => decide (x.mask = 0))
    (l := p.request.beats.drop p.results.length)
  have hb' : ((p.request.beats.drop p.results.length).dropWhile fun x => decide (x.mask = 0)).head? = some b := by
    rw [Place.afterSkips, List.length_append, List.length_map, ← List.getElem?_drop, ← hsplit,
      List.getElem?_append_right (by simp)] at hb
    simpa [List.head?_eq_getElem?] using hb
  have hhead := List.head?_dropWhile_not (fun x : WriteBeat => decide (x.mask = 0)) (p.request.beats.drop p.results.length)
  rw [hb'] at hhead
  simpa using hhead

/-- The word that a cut-off finds being written in a host tenure: that of the next beat, as the row says (log 5). -/
theorem State.beatWriteAddress_eq_some {p : Nat} : s.beatWriteAddress = some p ↔
    ∃ pl, s.placeInTenure = some pl ∧ pl.afterSkips.length < pl.request.beatCount ∧
      p = s.forward (pl.request.address.toNat + pl.afterSkips.length) ∧
      (pl.request.kind = .read →
        s.config.readWriteback = true ∧ (decode (arrayRead s.array p)).found = .correctable) ∧
      (pl.request.kind = .write → ∃ b, pl.request.beats[pl.afterSkips.length]? = some b ∧ b.mask ≠ 0) := by
  unfold State.beatWriteAddress
  cases hplace : s.placeInTenure with
  | none => simp
  | some pl =>
    simp only [Option.some.injEq, exists_eq_left']
    by_cases hi : pl.afterSkips.length < pl.request.beatCount
    · rw [if_pos hi]
      cases hkind : pl.request.kind with
      | read =>
        simp only [hi, true_and, reduceCtorEq, false_implies, and_true, true_implies]
        by_cases hback : s.config.readWriteback = true ∧
            (s.decodeAt (s.forward (pl.request.beatAddress pl.afterSkips.length))).found = .correctable
        · rw [if_pos (Bool.and_eq_true_iff.mpr ⟨hback.1, decide_eq_true hback.2⟩), Option.some.injEq]
          exact ⟨by rintro rfl; exact ⟨rfl, hback⟩, fun h => h.1.symm⟩
        · rw [if_neg fun h => hback ⟨(Bool.and_eq_true_iff.mp h).1, of_decide_eq_true (Bool.and_eq_true_iff.mp h).2⟩]
          exact iff_of_false nofun (by rintro ⟨rfl, h⟩; exact hback h)
      | write =>
        simp only [hi, true_and, reduceCtorEq, false_implies, true_implies, Option.map_eq_some_iff]
        constructor
        · rintro ⟨b, hb, rfl⟩
          exact ⟨rfl, b, hb, Place.mask_afterSkips hb⟩
        · rintro ⟨rfl, b, hb, -⟩
          exact ⟨b, hb, rfl⟩
    · rw [if_neg hi]
      simp [hi]

/-- The word that a cut-off finds being written in a scrub step: its write-back, not yet made (log 5). -/
theorem State.cutWord_scrub {midWrite : Bool} {p : Nat} (htenure : s.seq.tenure = .scrub)
    (h : s.cutWord midWrite = some p) :
    midWrite = true ∧ (decode (arrayRead s.array p)).found = .correctable ∧
      ∃ st, s.scrub.step = some st ∧ st.target = p ∧ st.decoded = false := by
  simp only [State.cutWord, htenure] at h
  split at h
  · next st hst =>
    split at h
    · next hcut =>
      cases h
      simp only [Bool.and_eq_true, Bool.not_eq_true'] at hcut
      obtain ⟨⟨hmid, hdecoded⟩, hfound⟩ := hcut
      exact ⟨hmid, of_decide_eq_true hfound, st, hst, rfl, hdecoded⟩
    · cases h
  · cases h

theorem State.cutWord_host {midWrite : Bool} (htenure : s.seq.tenure = .host) :
    s.cutWord midWrite = if midWrite then s.beatWriteAddress else none := by
  simp only [State.cutWord, htenure]

/-- Settles O3: the fall changes what it names, the word cut off by the tenure it cuts. -/
theorem resetLowCutsOffWork : Obligations.ResetLowCutsOffWork := by
  refine ⟨fun s midWrite => ⟨fun hlow => ?_, fun hhigh => ?_⟩, fun s midWrite => ?_⟩
  · simp only [exec, execResetNLow, if_pos hlow]
  · refine ⟨s.driveLow midWrite, ?_, s.driveLow_eq midWrite, fun hcut => ?_, fun p hcut => ?_, ?_, ?_, rfl⟩
    · simp only [exec, execResetNLow, hhigh, Bool.false_eq_true, if_false]
    · obtain ⟨harray, hcount⟩ := s.driveLow_array midWrite
      rw [harray, hcount, State.cutArray_none hcut]
      exact ⟨rfl, rfl⟩
    · obtain ⟨harray, hcount⟩ := s.driveLow_array midWrite
      rw [harray, hcount, State.cutArray_some hcut]
      exact ⟨rfl, rfl⟩
    · rw [State.driveLow_eq]
      rfl
    · rw [State.driveLow_eq]
      rfl
  · refine ⟨fun p d live h => ?_, fun p w h => ?_, fun p h => ?_, fun p d live h => ?_, fun p d live h => ?_,
      fun p h => ?_, fun h => ?_, fun h p => State.cutWord_scrub h, fun h p => ?_, fun pl => rfl⟩
    case refine_8 =>
      rw [State.cutWord_host h]
      cases midWrite with
      | false => simp
      | true => exact State.beatWriteAddress_eq_some.trans (by simp)
    all_goals simp only [State.cutWord, h]

/-! ### RESET_N rising (R156) -/

theorem State.riseWith_freeSlots (s : State) (a : Fin 8) (preserve : Bool) : (s.riseWith a preserve).freeSlots = 64 := by
  have hfree : (s.riseWith a preserve).slotIsFree = fun _ => true :=
    funext fun k => decide_eq_true (Vector.getElem_replicate ..)
  rw [State.freeSlots, hfree]
  rfl

/-- No flag is set and no record is held (R136). -/
theorem State.riseWith_alert (s : State) (a : Fin 8) (preserve : Bool) : (s.riseWith a preserve).alert = false := by
  simp [State.alert, State.riseWith, State.afterReset, ErrorLog.reset]

/-- Settles O4: the rise gives the reset values over the array and the pins there are. -/
theorem resetRiseValues : Obligations.ResetRiseValues := by
  intro s a preserve
  refine ⟨_, rfl, rfl, rfl, fun k => ⟨Vector.getElem_replicate .., Vector.getElem_replicate ..⟩, ?_, rfl, rfl, rfl, rfl, rfl, rfl,
    rfl, rfl, rfl, rfl, rfl, rfl, rfl, rfl, rfl, rfl, rfl, rfl, rfl, rfl, rfl, rfl, rfl, ?_, ?_, fun hlow => ?_⟩
  · exact State.riseWith_freeSlots _ a preserve
  · split
    · rfl
    · rw [State.driveLow_eq]
      rfl
  · exact State.riseWith_alert _ a preserve
  · rw [if_pos hlow]
    rfl

/-! ### The machine right after reset -/

theorem State.reset_table (k : Fin 64) : State.reset.tu.table[k] = none := Vector.getElem_replicate ..

theorem State.reset_pool (k : Fin 64) : State.reset.tu.pool[k] = .free := Vector.getElem_replicate ..

theorem State.reset_poolAgrees : State.reset.PoolAgrees := by
  refine ⟨fun k => ?_, fun k => ?_, fun j k d hd => ?_, fun k e he => ?_⟩
  · rw [State.reset_pool, State.reset_table]
    exact iff_of_false nofun nofun
  · rw [State.reset_pool]
    exact iff_of_false nofun nofun
  · rw [State.reset_table] at hd
    cases hd
  · rw [State.reset_table] at he
    cases he

theorem State.reset_logicalsExist : State.reset.LogicalsExist :=
  ⟨fun k e he => (by rw [State.reset_table] at he; cases he), nofun, nofun⟩

/-- Settles O60: nothing is held, watched, queued or under way, and the timer is stopped in FILLING. -/
theorem invariantsHoldAtReset : Obligations.InvariantsHoldAtReset := by
  have hretirement : State.reset.RetirementSound := ⟨Nat.zero_le 4, List.nodup_nil, nofun⟩
  have hwatch : State.reset.WatchSound := ⟨Nat.zero_le 8, List.nodup_nil, nofun⟩
  have hqueue : State.reset.QueueSound := .of_empty rfl nofun
  have hlifecycle : State.reset.LifecycleSound :=
    .of_quiet rfl rfl (by decide) (fun _ => ⟨rfl, rfl, rfl⟩) (Nat.zero_le _)
  refine ⟨rfl, ?_, ?_, State.reset_poolAgrees, .of_reset rfl, hretirement, hwatch, hqueue, .of_no_migration rfl rfl,
    hlifecycle, ?_, nofun, ?_, hqueue, State.reset_logicalsExist, ?_⟩
  · exact riseWith_timebaseSound State.reset 0 false
  · exact ⟨Nat.zero_le 4, Nat.zero_le 15, State.W_pos _, nofun, iff_of_false nofun nofun⟩
  · exact ⟨Nat.le_refl 0, fun _ => rfl, nofun⟩
  · exact ⟨State.reset_poolAgrees, State.reset_logicalsExist, hretirement, hwatch, nofun, nofun⟩
  · exact ⟨nofun, nofun, nofun, State.W_pos _, nofun⟩

end Sys2Proof.Machine

/-! ## The commands of the Management Port: O12, O13, O14, O29, O30, O38, O40 to O43 -/

namespace Sys2Proof.Machine

variable {s t : State}

/-! ### The state of a take answers as the state it is taken in -/

@[simp] theorem State.taken_W (s : State) (code : BitVec 8) : (s.taken code).W = s.W := rfl
@[simp] theorem State.taken_H (s : State) (code : BitVec 8) : (s.taken code).H = s.H := rfl
@[simp] theorem State.taken_mappedSlot (s : State) (code : BitVec 8) (l : Nat) :
    (s.taken code).mappedSlot l = s.mappedSlot l := rfl
@[simp] theorem State.taken_forward (s : State) (code : BitVec 8) (l : Nat) :
    (s.taken code).forward l = s.forward l := rfl
@[simp] theorem State.taken_migrating (s : State) (code : BitVec 8) (l : Nat) :
    (s.taken code).migrating l = s.migrating l := rfl
@[simp] theorem State.taken_queuedForRetirement (s : State) (code : BitVec 8) (l : Nat) :
    (s.taken code).queuedForRetirement l = s.queuedForRetirement l := rfl
@[simp] theorem State.taken_slotIsFree (s : State) (code : BitVec 8) (k : Fin 64) :
    (s.taken code).slotIsFree k = s.slotIsFree k := rfl

theorem State.slotIsFree_iff {k : Fin 64} : s.slotIsFree k = true ↔ s.tu.pool[k] = .free := decide_eq_true_iff

/-- A slot argument below 64 is that slot (R29). -/
theorem slotOfWord_eq_some {w : MgmtWord} {k : Fin 64} (h : w.toNat = k.val) : slotOfWord w = some k := by
  rw [slotOfWord, dif_pos (h ▸ k.isLt)]
  exact congrArg some (Fin.ext h)

theorem slotOfWord_eq_none {w : MgmtWord} (h : 64 ≤ w.toNat) : slotOfWord w = none := by
  rw [slotOfWord, dif_neg (Nat.not_lt.mpr h)]

/-! ### Table commands (02) -/

/-- Settles O12: MAP's tests in order. -/
theorem mapCreatesEntry : Obligations.MapCreatesEntry := by
  intro s l slot hready
  have htaken : exec (.map l slot) s = .next ((s.taken codeMap).takeMap l.toNat (slotOfWord slot)) :=
    congrArg _ (State.takeCommand_ready hready _ _)
  rw [htaken]
  refine ⟨fun hrange => ?_, fun k hk hl => ?_⟩
  · cases hslot : slotOfWord slot with
    | none => rfl
    | some k =>
      have hl : s.H ≤ l.toNat := hrange.resolve_right fun h => by simp [slotOfWord_eq_none h] at hslot
      simp [State.takeMap, hl]
  · rw [slotOfWord_eq_some hk]
    have hl : ¬ s.H ≤ l.toNat := Nat.not_le.mpr hl
    refine ⟨fun hmapped => ?_, fun hnone hbusy => ?_, fun hnone hfree hheld => ?_, fun hnone hfree hm hq => ?_⟩
    · simp [State.takeMap, hl, hmapped]
    · have hfree : s.slotIsFree k = false := Bool.eq_false_iff.mpr fun h => hbusy (State.slotIsFree_iff.mp h)
      simp [State.takeMap, hl, hnone, hfree]
    · simp [State.takeMap, hl, hnone, State.slotIsFree_iff.mpr hfree, hheld]
    · simp [State.takeMap, hl, hnone, State.slotIsFree_iff.mpr hfree, hm, hq, State.dropWatch, State.setSlot, State.setEntry]

/-- Settles O13: UNMAP's tests in order. -/
theorem unmapRemovesEntry : Obligations.UnmapRemovesEntry := by
  intro s l hready
  have htaken : exec (.unmap l) s = .next ((s.taken codeUnmap).takeUnmap l.toNat) :=
    congrArg _ (State.takeCommand_ready hready _ _)
  rw [htaken]
  refine ⟨fun hrange => ?_, fun hl hnone => ?_, fun k hl hmapped => ⟨fun hm => ?_, fun hm => ?_⟩⟩
  · simp [State.takeUnmap, hrange]
  · simp [State.takeUnmap, Nat.not_le.mpr hl, hnone]
  · simp [State.takeUnmap, Nat.not_le.mpr hl, hmapped, hm]
  · simp only [State.takeUnmap, State.taken_H, State.taken_mappedSlot, State.taken_migrating, hmapped, hm,
      Bool.false_eq_true, if_false, if_neg (Nat.not_le.mpr hl)]
    rfl

theorem State.takeSlotFree_bad {k : Fin 64} (h : s.tu.pool[k] = .bad) :
    s.takeSlotFree (some k) = (s.freeSlot k).answer .ok := if_pos h

theorem State.takeSlotFree_refused {k : Fin 64} (h : s.tu.pool[k] ≠ .bad) :
    s.takeSlotFree (some k) = s.answer .slotState := if_neg h

theorem State.takeSlotBad_free {k : Fin 64} (h : s.tu.pool[k] = .free) :
    s.takeSlotBad (some k) = (s.setSlot k .bad).answer .ok := if_pos (State.slotIsFree_iff.mpr h)

theorem State.takeSlotBad_refused {k : Fin 64} (h : s.tu.pool[k] ≠ .free) :
    s.takeSlotBad (some k) = s.answer .slotState := if_neg (mt State.slotIsFree_iff.mp h)

/-- Settles O14: the slot's state decides. -/
theorem slotCommandsMoveOneSlot : Obligations.SlotCommandsMoveOneSlot := by
  intro s slot hready
  have hfreeTaken : exec (.slotFree slot) s = .next ((s.taken codeSlotFree).takeSlotFree (slotOfWord slot)) :=
    congrArg _ (State.takeCommand_ready hready _ _)
  have hbadTaken : exec (.slotBad slot) s = .next ((s.taken codeSlotBad).takeSlotBad (slotOfWord slot)) :=
    congrArg _ (State.takeCommand_ready hready _ _)
  rw [hfreeTaken, hbadTaken]
  refine ⟨fun hrange => by rw [slotOfWord_eq_none hrange]; exact ⟨rfl, rfl⟩, fun k hk => ?_⟩
  rw [slotOfWord_eq_some hk]
  exact ⟨fun h => congrArg _ (State.takeSlotFree_refused h), fun h => congrArg _ (State.takeSlotFree_bad h),
    fun h => congrArg _ (State.takeSlotBad_refused h), fun h => congrArg _ (State.takeSlotBad_free h)⟩

/-! ### Accounting and log commands (05, 07) -/

/-- RETIRE that passes its tests (R90). -/
theorem State.takeRetire_accepted {l : Nat} (hl : l < s.H) (hm : s.migrating l = false)
    (hq : s.queuedForRetirement l = false) (hspace : s.retq.length < 4) :
    s.takeRetire l =
      ({ s.setWatch (s.forward l) .queued with retq := s.retq ++ [⟨l, .command⟩] } : State).answer .ok := by
  rw [State.takeRetire, if_neg (Nat.not_le.mpr hl), if_neg (by simp [hm, hq])]
  exact if_neg (Nat.not_le.mpr hspace)

/-- Settles O29: the tests of RETIRE and SCRUB_SEEK in order. -/
theorem retireClearWatchAndSeek : Obligations.RetireClearWatchAndSeek := by
  refine ⟨fun s l hready => ?_, fun s p hready => ⟨congrArg _ (State.takeCommand_ready hready _ _), ?_⟩⟩
  · have htaken : exec (.retire l) s = .next ((s.taken codeRetire).takeRetire l.toNat) :=
      congrArg _ (State.takeCommand_ready hready _ _)
    rw [htaken]
    refine ⟨fun hrange => ?_, fun hl hheld => ?_, fun hl hm hq => ⟨fun hfull => ?_, fun hspace => ?_⟩⟩
    · simp [State.takeRetire, hrange]
    · simp [State.takeRetire, Nat.not_le.mpr hl, hheld]
    · simp [State.takeRetire, Nat.not_le.mpr hl, hm, hq, Config.retirePlaces, hfull]
    · exact congrArg _ (State.takeRetire_accepted (s := s.taken codeRetire) hl hm hq hspace)
  · have htaken : exec (.scrubSeek p) s = .next ((s.taken codeScrubSeek).takeSeek p.toNat) :=
      congrArg _ (State.takeCommand_ready hready _ _)
    rw [htaken]
    refine ⟨fun hrange => ?_, fun hp => ?_⟩
    · simp [State.takeSeek, hrange]
    · simp [State.takeSeek, Nat.not_le.mpr hp, State.markCursorMoved]

/-- Settles O30: each of the three commands writes the fields it names. -/
theorem logCommandsRemoveOnlyTheirs : Obligations.LogCommandsRemoveOnlyTheirs := by
  intro s hready
  refine ⟨fun hempty => ?_, fun r rest hrecords => ?_, congrArg _ (State.takeCommand_ready hready _ _),
    congrArg _ (State.takeCommand_ready hready _ _)⟩
  all_goals
    refine congrArg _ ((State.takeCommand_ready hready _ _).trans ?_)
  · simp only [State.taken_log, hempty]
  · simp only [State.taken_log, hrecords]

/-! ### Migration and lifecycle commands (06, 09) -/

/-- Settles O38: the abort of the active migration, and EMPTY without one. -/
theorem cancelEndsTheMigration : Obligations.CancelEndsTheMigration := by
  intro s hready
  have htaken : exec .cancelMigration s =
      .next (if (s.taken codeCancelMigration).migration.isSome then
        ((s.taken codeCancelMigration).abortMigration .cancel).answer .ok
      else (s.taken codeCancelMigration).answer .empty) := congrArg _ (State.takeCommand_ready hready _ _)
  rw [htaken]
  refine ⟨fun hnone => ?_, fun c hcontext => ?_⟩
  · simp only [State.taken_migration, hnone, Option.isSome_none, Bool.false_eq_true, if_false]
  · simp only [State.taken_migration, State.abortMigration, hcontext, Option.isSome_some, if_true]
    rfl

/-- A drain with an empty queue ends at its beginning, with CLOSE complete or with FILLING begun (R163). -/
theorem State.beginDrain_empty (hqueue : s.queue = []) (target : DrainTarget) :
    s.beginDrain target = ({ s.goBusy with lifecycle := .draining target } : State).endDrain := by
  simp only [State.beginDrain, State.goBusy_queue, hqueue, List.isEmpty_nil, if_true]

theorem State.beginDrain_queued (hqueue : s.queue ≠ []) (target : DrainTarget) :
    s.beginDrain target = { s.goBusy with lifecycle := .draining target } := by
  simp only [State.beginDrain, State.goBusy_queue, List.isEmpty_eq_false_iff.mpr hqueue, Bool.false_eq_true, if_false]

/-- Settles O40: the lifecycle state decides each command; a drain with an empty queue is over at once. -/
theorem lifecycleCommandsMoveTheState : Obligations.LifecycleCommandsMoveTheState := by
  refine ⟨fun s hready => ?_, fun s back => ⟨fun hnone => ?_, fun c hcontext => ?_⟩⟩
  · have hidle : s.mgmt.busy = false := hready.2
    simp only [exec, execOpen, execClose, execFill, State.takeCommand_ready hready, State.taken_lifecycle]
    refine ⟨fun hhold => ?_, fun hopen => ?_, fun hfilling => ?_⟩
    · simp only [hhold, and_self]
    · simp only [hopen, true_and]
      refine ⟨fun hqueue => ?_, fun hqueue => ?_⟩
      · exact ⟨congrArg _ (State.beginDrain_queued (s := s.taken codeClose) hqueue _),
          congrArg _ (State.beginDrain_queued (s := s.taken codeFill) hqueue _)⟩
      · refine ⟨congrArg _ ((State.beginDrain_empty (s := s.taken codeClose) hqueue _).trans ?_),
          congrArg _ (State.beginDrain_empty (s := s.taken codeFill) hqueue _)⟩
        simp only [State.endDrain, State.completeCommand, State.goBusy, State.answer, State.taken, hidle]
    · cases hlifecycle : s.lifecycle with
      | filling back => simp only [and_self]
      | hold | opened | draining => simp [hlifecycle, Lifecycle.isFilling] at hfilling
  · simp only [State.beginFilling, State.abortMigration, hnone]
  · simp only [State.beginFilling, State.abortMigration, hcontext]
    rfl

/-- Settles O41: SOFT_RESET's effects, with and without a migration. -/
theorem softResetReturnsWorkingRecords : Obligations.SoftResetReturnsWorkingRecords := by
  intro s hready
  refine congrArg _ ((State.takeCommand_ready hready _ _).trans ?_)
  have htimer : (s.taken codeSoftReset).timerAfterSoftReset =
      if s.lifecycle.isFilling = true ∨ s.config.scrubInterval = 0 then none else some 0 := by
    rw [timerAfterSoftReset_eq]
    by_cases hfilling : s.lifecycle.isFilling = true
    · simp [hfilling]
    · by_cases hzero : s.config.scrubInterval = 0 <;> simp [hfilling, hzero, startTimer]
  rw [← htimer]
  cases hmigration : s.migration <;>
    simp only [State.softReset, State.releaseTarget, State.taken_migration, hmigration] <;> rfl

/-! ### PEEK, POKE and a command while BUSY -/

theorem State.takeDiag_range {p : Nat} (hp : s.W ≤ p) (claim : DiagClaim) : s.takeDiag p claim = s.answer .range := if_pos hp

theorem State.takeDiag_filling {p : Nat} (hp : p < s.W) (hfilling : s.lifecycle.isFilling = true) (claim : DiagClaim) :
    s.takeDiag p claim = s.answer .state := by
  rw [State.takeDiag, if_neg (Nat.not_le.mpr hp)]
  cases hlifecycle : s.lifecycle with
  | filling back => rfl
  | hold | opened | draining => simp [hlifecycle, Lifecycle.isFilling] at hfilling

theorem State.takeDiag_accepted {p : Nat} (hp : p < s.W) (hstate : s.lifecycle = .hold ∨ s.lifecycle = .opened)
    (claim : DiagClaim) :
    s.takeDiag p claim = { s with mgmt := { s.mgmt with busy := true, diagClaim := some claim } } := by
  rw [State.takeDiag, if_neg (Nat.not_le.mpr hp)]
  split
  · next hfilling => simp [hfilling] at hstate
  all_goals rfl

/-- Settles O42: the tests at the take, and the one access of the tenure. -/
theorem peekAndPokeReachAnyWord : Obligations.PeekAndPokeReachAnyWord := by
  refine ⟨fun s p hready => ?_, fun s p w hhigh hp => ⟨fun htenure => ?_, fun htenure => ?_⟩⟩
  · have hpeek : exec (.peek p) s = .next ((s.taken codePeek).takeDiag p.toNat (.peek p.toNat)) :=
      congrArg _ (State.takeCommand_ready hready _ _)
    have hpoke : exec (.poke p) s = .next ((s.taken codePoke).takeDiag p.toNat (.poke p.toNat)) :=
      congrArg _ (State.takeCommand_ready hready _ _)
    rw [hpeek, hpoke]
    refine ⟨fun hrange => ?_, fun hp hfilling => ?_, fun hp hstate => ?_⟩
    · exact ⟨congrArg _ (State.takeDiag_range (s := s.taken codePeek) hrange _),
        congrArg _ (State.takeDiag_range (s := s.taken codePoke) hrange _)⟩
    · exact ⟨congrArg _ (State.takeDiag_filling (s := s.taken codePeek) hp hfilling _),
        congrArg _ (State.takeDiag_filling (s := s.taken codePoke) hp hfilling _)⟩
    · exact ⟨congrArg _ (State.takeDiag_accepted (s := s.taken codePeek) hp hstate _),
        congrArg _ (State.takeDiag_accepted (s := s.taken codePoke) hp hstate _)⟩
  · simp only [exec, execPeekCompletion, htenure, atArray_of_lt hp, whileRunning_high hhigh]
    rfl
  · simp only [exec, execPokeCompletion, htenure, atArray_of_lt hp, whileRunning_high hhigh]
    rfl

/-- A command that arrives while BUSY leaves LOST set at the end of its frame, and no more (R179). -/
theorem State.takeCommand_busy (haccepts : s.frameAccepts = true) (hbusy : s.mgmt.busy = true) (code : BitVec 8)
    (owner : State → State) :
    s.takeCommand code owner = { s.frameEnded with mgmt := { s.frameEnded.mgmt with lost := true } } := by
  rw [State.takeCommand, State.atFrameEnd_accepts haccepts]
  exact if_pos hbusy

/-- Settles O43: every row that carries a code is a take. -/
theorem busyDiscardsEveryCommand : Obligations.BusyDiscardsEveryCommand := by
  intro c code s hcode haccepts hbusy
  cases c with
  | unknownCommand known =>
    simp only [commandCode] at hcode
    split at hcode
    · cases hcode
    · next hunknown =>
      simp only [exec, execUnknownCommand, if_neg hunknown]
      exact congrArg _ (State.takeCommand_busy haccepts hbusy _ _)
  | map | unmap | slotFree | slotBad | peek | poke | scrubSeek | retire | clearWatch | cancelMigration | popLog | clearLog
  | clearSummary | openArray | closeArray | fillArray | softReset =>
    exact congrArg _ (State.takeCommand_busy haccepts hbusy _ _)
  | _ => cases hcode

end Sys2Proof.Machine

/-! ## The host port: O16 to O19 -/

namespace Sys2Proof.Machine

variable {s t : State}

/-! ### Requests (R142, R143, R182) -/

theorem beatsOfLength_eq (code : BitVec 2) :
    beatsOfLength code = match code.toNat with | 0 => 1 | 1 => 2 | 2 => 4 | _ => 1 := rfl

theorem headerKind_eq_write (h : BitVec 32) : headerKind h = .write ↔ h.getLsbD 31 = true := by
  unfold headerKind
  split <;> simp_all

/-- The beats of a WRITE with a sound length code are those of the positions that the length names. -/
theorem decodeRequest_beats {raw : RawRequest} (hkind : (decodeRequest raw).kind = .write)
    (hlength : (decodeRequest raw).lengthCode ≠ 3) :
    (decodeRequest raw).beats =
      ([raw.b0, raw.b1, raw.b2, raw.b3].take (decodeRequest raw).beatCount).map writeBeatOf := by
  change headerKind raw.header = .write at hkind
  change headerLength raw.header ≠ 3 at hlength
  simp only [decodeRequest, hkind, if_neg hlength, Request.beatCount]

theorem decodeRequest_no_beats {raw : RawRequest}
    (h : (decodeRequest raw).kind = .read ∨ (decodeRequest raw).lengthCode = 3) : (decodeRequest raw).beats = [] := by
  change headerKind raw.header = .read ∨ headerLength raw.header = 3 at h
  cases hkind : headerKind raw.header with
  | read => simp only [decodeRequest, hkind]
  | write =>
    rw [hkind] at h
    simp only [decodeRequest, hkind, if_pos (h.resolve_left nofun)]

theorem Request.malformed_iff {r : Request} :
    r.malformed = true ↔ r.lengthCode = 3 ∨ r.address.toNat % r.beatCount ≠ 0 := by
  simp [Request.malformed]

/-- Settles O16: the fields as they are cut from the header and the beat positions, and the checks in order. -/
theorem requestDecodedAndChecked : Obligations.RequestDecodedAndChecked := by
  intro raw
  refine ⟨headerKind_eq_write _, rfl, rfl, rfl, beatsOfLength_eq _, decodeRequest_no_beats, fun hkind hlength => ?_,
    fun h => ⟨fun hbad => ?_, fun hlength halign hrange => ?_, fun hlength halign hrange => ?_⟩⟩
  · refine ⟨length_beats_of_write raw hkind hlength, fun i hi b hb => ?_⟩
    rw [decodeRequest_beats hkind hlength, List.getElem?_map, List.getElem?_take_of_lt hi, Option.mem_def.mp hb]
    rfl
  · rw [Request.refusal, if_pos (Request.malformed_iff.mpr hbad)]
  all_goals
    rw [Request.refusal, if_neg fun hbad => (Request.malformed_iff.mp hbad).elim hlength fun h => h halign]
  · rw [if_pos hrange]
  · rw [if_neg (Nat.not_le.mpr hrange)]

/-! ### Requests taken (R140 to R145) -/

/-- An accepted request at the tail of an ordered queue. -/
theorem settlePlaces_append_accepted {q : List Place} (h : queueOrdered q = true) {p : Place} (hp : p.state = .waiting)
    (hrefusal : p.refusal = none) : settlePlaces (q ++ [p]) = q ++ [p] := by
  obtain hdone | ⟨ahead, b, rest, rfl, hahead, hb, hsound, -⟩ := queueOrdered_cases h
  · rw [settlePlaces_append_done hdone, settlePlaces_cons_sound (by simp [hp]) hrefusal]
  · rw [List.append_assoc, settlePlaces_append_done hahead, List.cons_append, settlePlaces_cons_sound hb hsound]

/-- A refused request at the tail of an ordered queue: DONE when every place ahead is, else WAITING (R145). -/
theorem settlePlaces_append_refusedTail {q : List Place} (h : queueOrdered q = true) {p : Place} (hp : p.state = .waiting)
    (hrefused : p.refusal.isSome = true) :
    settlePlaces (q ++ [p]) = q ++ [{ p with state := if q.all (·.state = .done) then .done else .waiting }] := by
  obtain hdone | ⟨ahead, b, rest, rfl, hahead, hb, hsound, -⟩ := queueOrdered_cases h
  · rw [settlePlaces_append_done hdone, settlePlaces_cons_refused hp hrefused, if_pos (by simpa using hdone)]
    rfl
  · rw [List.append_assoc, settlePlaces_append_done hahead, List.cons_append, settlePlaces_cons_sound hb hsound,
      if_neg (by simp [hb]), ← hp, List.append_assoc]
    rfl

theorem refusedResults_eq (r : Request) :
    refusedResults r = List.replicate r.beatCount ⟨.refused, if r.kind = .read then some 0 else none⟩ := by
  unfold refusedResults
  cases r.kind <;> rfl

theorem State.requestTake_iff :
    s.requestTake = true ↔ s.pins.resetLow = false ∧ s.lifecycle = .opened ∧ s.queue.length < 8 := by
  unfold State.requestTake State.canTake
  rw [Bool.and_eq_true, Bool.and_eq_true, Bool.not_eq_true', decide_eq_true_iff, decide_eq_true_iff]
  rfl

/-- Both rows take the request presented, or leave it with the host. -/
theorem exec_take {raw : RawRequest} {c : Instr} (hc : c = .requestTaken raw.header raw.b0 raw.b1 raw.b2 raw.b3 ∨
    c = .heldRequestTaken ∧ s.pins.presented = some raw) :
    exec c s = .next (if s.requestTake then s.takeRequest raw
      else { s with pins := { s.pins with presented := some raw } }) := by
  obtain rfl | ⟨rfl, hheld⟩ := hc
  · simp only [exec, execRequestTaken]
    split <;> rfl
  · simp only [exec, execHeldRequestTaken, hheld]
    rw [← hheld]

/-- Settles O17: in an ordered queue only the new place can settle. -/
theorem requestGoesToTheTail : Obligations.RequestGoesToTheTail := by
  intro s raw c hordered hc
  rw [exec_take hc]
  refine ⟨fun hhigh hopen hspace => ?_, fun hnot => ?_⟩
  · rw [if_pos (State.requestTake_iff.mpr ⟨hhigh, hopen, hspace⟩)]
    refine ⟨fun haccepted => ?_, fun why hrefused => ?_⟩
    · simp only [State.takeRequest, haccepted, newPlace]
      rw [settlePlaces_append_accepted hordered rfl rfl]
    · simp only [State.takeRequest, hrefused, newPlace, State.offer]
      rw [settlePlaces_append_refusedTail hordered rfl rfl, refusedResults_eq]
  · rw [if_neg fun htake => ?_]
    obtain ⟨hhigh, hopen, hspace⟩ := State.requestTake_iff.mp htake
    obtain hlow | hclosed | hfull := hnot
    · exact Bool.false_ne_true (hhigh.symm.trans hlow)
    · exact hclosed hopen
    · exact absurd hspace (Nat.not_lt.mpr hfull)

/-! ### Responses (R148, R183) -/

/-- Settles O18: the head place leaves, and the end of a drain is that of an emptied queue. -/
theorem responseFreesTheHead : Obligations.ResponseFreesTheHead := by
  intro s p rest hhigh hqueue hdone
  have htaken : exec .responseTaken s =
      .next (if rest.isEmpty then ({ s with queue := rest } : State).endDrain else { s with queue := rest }) := by
    simp only [exec, execResponseTaken, hqueue, if_pos hdone, whileRunning_high hhigh]
  rw [htaken]
  refine ⟨fun hstays => ?_, fun hempty hlifecycle => ?_, fun back hempty hlifecycle => ?_⟩
  · split
    · next hempty =>
      have hrunning : s.lifecycle.isDraining = false := hstays.resolve_left fun h => h (List.isEmpty_iff.mp hempty)
      obtain ⟨-, hend⟩ | ⟨hlifecycle, -⟩ | ⟨back, hlifecycle, -⟩ := State.endDrain_cases { s with queue := rest }
      · rw [hend]
      all_goals
        rw [show s.lifecycle = _ from hlifecycle] at hrunning
        cases hrunning
    · rfl
  · subst hempty
    simp only [List.isEmpty_nil, if_true, State.endDrain, hlifecycle]
    rfl
  · subst hempty
    simp only [List.isEmpty_nil, if_true, State.endDrain, hlifecycle]

theorem responseBeat_none {results : List BeatResult} {i : Nat} (h : results[i]? = none) : responseBeat results i = 0 := by
  simp only [responseBeat, h]

theorem responseBeat_some {results : List BeatResult} {i : Nat} {r : BeatResult} (h : results[i]? = some r) :
    responseBeat results i = r.status.code ++ r.data.getD 0 := by
  simp only [responseBeat, h]

/-- The four beat positions of a response are those of the results. -/
theorem Place.response_beats (p : Place) {i : Nat} {b : BitVec 68}
    (hb : b ∈ [p.response.b0, p.response.b1, p.response.b2, p.response.b3][i]?) : b = responseBeat p.results i := by
  match i with
  | 0 | 1 | 2 | 3 => exact (Option.some.inj hb).symm
  | i + 4 => simp at hb

theorem State.responseValid_iff : s.responseValid = true ↔ ∃ p rest, s.queue = p :: rest ∧ p.state = .done := by
  unfold State.responseValid State.response
  cases s.queue with
  | nil => simp
  | cons p rest => by_cases hp : p.state = .done <;> simp [hp]

/-- Settles O19: each field is the part of the header, or of a beat position, that it was put in. -/
theorem responseLayout : Obligations.ResponseLayout := by
  refine ⟨fun p => ⟨?_, ?_, ?_, ?_, ?_, fun i hi b hb => ?_⟩, fun s => State.responseValid_iff⟩
  · have htop : p.response.header.getLsbD 31 = (kindBit p.request.kind).getLsbD 0 := by
      simp only [Place.response, BitVec.getLsbD_append]
      rfl
    rw [htop]
    cases p.request.kind <;> decide
  · unfold Place.response
    rw [BitVec.extractLsb'_append_eq_of_le (by decide), BitVec.extractLsb'_append_eq_of_le (by decide),
      BitVec.extractLsb'_append_eq_of_le (by decide)]
    exact BitVec.extractLsb'_append_eq_right
  · unfold Place.response
    rw [BitVec.extractLsb'_append_eq_of_le (by decide), BitVec.extractLsb'_append_eq_of_le (by decide)]
    exact BitVec.extractLsb'_append_eq_right
  · unfold Place.response
    rw [BitVec.extractLsb'_append_eq_of_le (by decide), BitVec.extractLsb'_append_eq_right]
    cases p.refusal with
    | none => rfl
    | some why => cases why <;> rfl
  · exact BitVec.extractLsb'_append_eq_right
  · rw [p.response_beats hb]
    refine ⟨responseBeat_none, fun r hr => ?_⟩
    rw [responseBeat_some hr]
    refine ⟨BitVec.extractLsb'_append_eq_left.trans ?_, BitVec.extractLsb'_append_eq_right⟩
    cases r.status <;> rfl

end Sys2Proof.Machine

/-! ## Host tenures and the arbiter: O20 to O25 -/

namespace Sys2Proof.Machine

variable {s t : State}

/-! ### Read beats (R46, R47, R51) -/

theorem State.readBeatAt_clean {p : Nat} (h : (s.decodeAt p).found = .clean) (rs : List BeatResult) :
    s.readBeatAt p rs = s.setResults (rs ++ [⟨.clean, some (s.decodeAt p).output⟩]) := by
  simp only [State.readBeatAt, h]

theorem State.readBeatAt_correctable {p b : Nat} (h : (s.decodeAt p).found = .correctable)
    (hb : (s.decodeAt p).bitPosition = some b) (rs : List BeatResult) :
    s.readBeatAt p rs =
      { s.setResults (rs ++ [⟨.corrected, some (s.decodeAt p).output⟩]) with
        array := if s.config.readWriteback then arrayWrite s.array p (encodeWord (s.decodeAt p).output) else s.array,
        reports := s.reports ++ [⟨.hostBeat, p⟩],
        offers := s.offers ++ [.ce .host p b (s.decodeAt p).syndrome] } := by
  simp only [State.readBeatAt, h, hb]
  cases s.config.readWriteback <;> rfl

theorem State.readBeatAt_uncorrectable {p : Nat} {f : UEForm} (h : (s.decodeAt p).found = .uncorrectable f)
    (rs : List BeatResult) :
    s.readBeatAt p rs =
      (s.setResults (rs ++ [⟨.poisoned, some (s.decodeAt p).output⟩])).offer (.ue .host p (s.decodeAt p).syndrome) := by
  simp only [State.readBeatAt, h]

/-- Settles O20: the row reads the next beat's word, and the class decides. -/
theorem readBeatAnswersByClass : Obligations.ReadBeatAnswersByClass := by
  intro s pl p hhigh htenure hplace hkind hmore hp hexists
  have hread : exec .hostReadBeat s = .next (s.readBeatAt p pl.results) := by
    simp only [exec, execHostReadBeat, hostTenurePlace_some.mpr ⟨htenure, hplace⟩]
    rw [if_pos ⟨hkind, hmore⟩, Request.beatAddress, ← hp, atArray_of_lt hexists, whileRunning_high hhigh]
  rw [hread]
  exact ⟨fun h => congrArg _ (State.readBeatAt_clean h _), fun b h hb => congrArg _ (State.readBeatAt_correctable h hb _),
    fun f h => congrArg _ (State.readBeatAt_uncorrectable h _)⟩

/-! ### Write and merge beats (R48 to R52) -/

/-- The results after the skips that come before the next beat to be written (R50). -/
theorem Place.afterSkips_of_drop {pl : Place} {skips later : List WriteBeat}
    (hdrop : pl.request.beats.drop pl.results.length = skips ++ later) (hskips : ∀ x ∈ skips, x.mask = 0)
    (hlater : ∀ b ∈ later.head?, b.mask ≠ 0) :
    pl.afterSkips = pl.results ++ skips.map fun _ => ⟨.skipped, none⟩ := by
  have hnone : later.takeWhile (fun x => decide (x.mask = 0)) = [] := by
    cases later with
    | nil => rfl
    | cons b later => exact List.takeWhile_cons_of_neg (by simpa using hlater b rfl)
  rw [Place.afterSkips, hdrop, List.takeWhile_append_of_pos (by simpa using hskips), hnone, List.append_nil]

theorem Place.length_afterSkips {pl : Place} {skips later : List WriteBeat}
    (hdrop : pl.request.beats.drop pl.results.length = skips ++ later) (hskips : ∀ x ∈ skips, x.mask = 0)
    (hlater : ∀ b ∈ later.head?, b.mask ≠ 0) : pl.afterSkips.length = pl.results.length + skips.length := by
  rw [Place.afterSkips_of_drop hdrop hskips hlater, List.length_append, List.length_map]

/-- The next beat to be written is the first behind the skips. -/
theorem Place.next_beat {pl : Place} {skips later : List WriteBeat} {b : WriteBeat}
    (hdrop : pl.request.beats.drop pl.results.length = skips ++ b :: later) (hskips : ∀ x ∈ skips, x.mask = 0)
    (hb : b.mask ≠ 0) : pl.request.beats[pl.afterSkips.length]? = some b := by
  rw [Place.length_afterSkips hdrop hskips (by simpa using hb), ← List.getElem?_drop, hdrop,
    List.getElem?_append_right (Nat.le_refl _), Nat.sub_self, List.getElem?_cons_zero]

/-- The dirty mark, said of the context (R52, R105). -/
theorem State.markDirty_eq (s : State) (l : Nat) :
    s.markDirty l = { s with
      migration := s.migration.map fun c =>
        if c.logical = l ∧ c.phase ≠ .copyRead then { c with dirty := true } else c } := by
  unfold State.markDirty
  cases hmigration : s.migration with
  | none =>
    dsimp only
    rw [Option.map_none, ← hmigration]
  | some c =>
    dsimp only
    by_cases hmark : c.logical = l ∧ c.phase ≠ .copyRead
    · rw [if_pos (by simpa using hmark), Option.map_some, if_pos hmark]
    · rw [if_neg (by simpa using hmark), Option.map_some, if_neg hmark, ← hmigration]

/-- A written beat: the word stored, the dirty mark, the result. -/
theorem State.performWrite_eq (s : State) (l p : Nat) (w : ArrayWord) (rs : List BeatResult) (st : BeatStatus) :
    s.performWrite l p w rs st = { s with
      array := arrayWrite s.array p w,
      migration := s.migration.map fun c =>
        if c.logical = l ∧ c.phase ≠ .copyRead then { c with dirty := true } else c,
      queue := s.queue.map fun x => if x.state = .inTenure then { x with results := rs ++ [⟨st, none⟩] } else x } := by
  rw [State.performWrite, State.markDirty_eq]
  rfl

/-- Settles O21: the row finds the first beat behind the skips, and writes it. -/
theorem writeBeatStoresWithoutReading : Obligations.WriteBeatStoresWithoutReading := by
  intro s pl skips later b l hhigh htenure hplace hdrop hskips hfull hl hexists
  have hb : b.mask ≠ 0 := by simp [hfull]
  have hlater : ∀ x ∈ (b :: later).head?, x.mask ≠ 0 := by simpa using hb
  simp only [exec, execHostWriteBeat, hostTenurePlace_some.mpr ⟨htenure, hplace⟩, Place.next_beat hdrop hskips hb,
    if_pos hfull]
  rw [Request.beatAddress, Place.length_afterSkips hdrop hskips hlater, ← hl, atArray_of_lt hexists,
    whileRunning_high hhigh, State.performWrite_eq, Place.afterSkips_of_drop hdrop hskips hlater]
  rfl

theorem mergedWord_sound {d : Decoded} (h : d.found = .clean ∨ d.found = .correctable) (new : DataWord)
    (mask : ByteMask) : mergedWord d new mask = encodeWord (merge d.output new mask) := by
  unfold mergedWord
  obtain h | h := h <;> simp only [h]

theorem mergedWord_poisoned {d : Decoded} {f : UEForm} (h : d.found = .uncorrectable f) (new : DataWord)
    (mask : ByteMask) : mergedWord d new mask = ⟨merge d.output new mask, poison (merge d.output new mask)⟩ := by
  unfold mergedWord
  simp only [h]

theorem State.mergeBeatAt_clean {l p : Nat} (h : (s.decodeAt p).found = .clean) (b : WriteBeat) (rs : List BeatResult) :
    s.mergeBeatAt l p b rs =
      s.performWrite l p (encodeWord (merge (s.decodeAt p).output b.data b.mask)) rs .merged := by
  simp only [State.mergeBeatAt, h, mergedWord_sound (.inl h)]

theorem State.mergeBeatAt_correctable {l p k : Nat} (h : (s.decodeAt p).found = .correctable)
    (hk : (s.decodeAt p).bitPosition = some k) (b : WriteBeat) (rs : List BeatResult) :
    s.mergeBeatAt l p b rs =
      ((s.performWrite l p (encodeWord (merge (s.decodeAt p).output b.data b.mask)) rs .mergedCorrected).report
        .hostBeat p).offer (.ce .merge p k (s.decodeAt p).syndrome) := by
  simp only [State.mergeBeatAt, h, hk, mergedWord_sound (.inr h), Option.getD_some]

theorem State.mergeBeatAt_uncorrectable {l p : Nat} {f : UEForm} (h : (s.decodeAt p).found = .uncorrectable f)
    (b : WriteBeat) (rs : List BeatResult) :
    s.mergeBeatAt l p b rs =
      (s.performWrite l p ⟨merge (s.decodeAt p).output b.data b.mask, poison (merge (s.decodeAt p).output b.data b.mask)⟩
        rs .mergedPoisoned).offer (.ue .merge p (s.decodeAt p).syndrome) := by
  simp only [State.mergeBeatAt, h, mergedWord_poisoned h]

/-- Settles O22: the row finds the first beat behind the skips, and the class of the word read decides. -/
theorem mergeBeatCombinesAndStores : Obligations.MergeBeatCombinesAndStores := by
  intro s pl skips later b l hhigh htenure hplace hdrop hskips hb hpartial hl hexists
  have hlater : ∀ x ∈ (b :: later).head?, x.mask ≠ 0 := by simpa using hb
  have hmerge : exec .hostMergeBeat s = .next (s.mergeBeatAt l (s.forward l) b
      (pl.results ++ skips.map fun _ => ⟨.skipped, none⟩)) := by
    simp only [exec, execHostMergeBeat, hostTenurePlace_some.mpr ⟨htenure, hplace⟩, Place.next_beat hdrop hskips hb,
      if_pos hpartial]
    rw [Request.beatAddress, Place.length_afterSkips hdrop hskips hlater, ← hl, atArray_of_lt hexists,
      whileRunning_high hhigh, Place.afterSkips_of_drop hdrop hskips hlater]
  rw [hmerge]
  refine ⟨fun h => ?_, fun k h hk => ?_, fun f h => ?_⟩
  · rw [State.mergeBeatAt_clean h, State.performWrite_eq]
    rfl
  · rw [State.mergeBeatAt_correctable h hk, State.performWrite_eq]
    rfl
  · rw [State.mergeBeatAt_uncorrectable h, State.performWrite_eq]
    rfl

/-! ### The end of a host tenure (R145) -/

theorem settlePlaces_waiting {q : List Place} (hq : ∀ x ∈ q, x.state = .waiting) (hhead : ∀ x ∈ q.head?, x.refusal = none) :
    settlePlaces q = q := by
  cases q with
  | nil => rfl
  | cons p rest => exact settlePlaces_cons_sound (by simp [hq p List.mem_cons_self]) (hhead p rfl) rest

/-- Settles O23: the place with its results becomes DONE, and the refused places settle behind it. -/
theorem completionMakesPlacesDone : Obligations.CompletionMakesPlacesDone := by
  intro s ahead refused behind pl skips hhigh htenure hqueue hahead hpl hrefused hbehind hhead hdrop hskips hlength
  have hplace : s.placeInTenure = some pl := by
    rw [State.placeInTenure, hqueue]
    exact find?_state_append (fun x hx => by rw [hahead x hx]; nofun) hpl
  have hafter : pl.afterSkips = pl.results ++ skips.map fun _ => ⟨.skipped, none⟩ :=
    Place.afterSkips_of_drop (later := []) (by rw [hdrop, List.append_nil]) hskips nofun
  have hwaiting : ∀ x ∈ refused ++ behind, x.state = .waiting := by
    simpa [or_imp, forall_and] using ⟨fun x hx => (hrefused x hx).1, hbehind⟩
  have hresults := setResults_append pl.afterSkips hqueue (fun x hx => by rw [hahead x hx]; nofun) hpl
    (fun x hx => by rw [hwaiting x hx]; nofun)
  have hdone : ∀ x ∈ ahead ++ [{ pl with state := .done, results := pl.afterSkips }], x.state = .done := by
    simpa [or_imp, forall_and] using hahead
  have hmoved : settlePlaces (moveFirst .inTenure .done (s.setResults pl.afterSkips).queue) =
      ahead ++ { pl with state := .done, results := pl.afterSkips } ::
        (refused.map (fun x => { x with state := .done }) ++ behind) := by
    rw [hresults, moveFirst_append (p := { pl with results := pl.afterSkips })
        (fun x hx => by rw [hahead x hx]; nofun) hpl, List.append_cons, settlePlaces_append_done hdone,
      settlePlaces_append_refused hrefused, settlePlaces_waiting hbehind hhead, ← List.append_cons]
  simp only [exec, execHostTenureCompletion, hostTenurePlace_some.mpr ⟨htenure, hplace⟩]
  rw [if_pos (by rw [hafter, List.length_append, List.length_map, hlength]), whileRunning_high hhigh, hmoved, hafter]
  rfl

/-! ### The arbiter (R39 to R44) -/

/-- A decision with the port free: the grant of the claim chosen, if there is one. -/
theorem exec_grantDecision (hhigh : s.pins.resetLow = false) (hfree : s.seq.tenure = .none) :
    exec .grantDecision s = .next (match s.grantChoice with | some c => s.grant c | none => s) := by
  simp only [exec, execGrantDecision, if_pos hfree, whileRunning_high hhigh]
  cases s.grantChoice <;> rfl

theorem State.pinned_iff : s.pinned = true ↔ ∃ c ∈ s.migration, c.pinned = true := by
  unfold State.pinned
  cases s.migration <;> simp

theorem State.scrubClaim_iff : s.scrubClaim = true ↔ 1 ≤ s.scrub.credit ∧ s.scrub.step = none := by
  simp [State.scrubClaim]

/-- The grants of the precedence list, in order (R42). -/
theorem grant_firstClaim (s : State) (eligible : Bool) :
    (match s.firstClaim eligible with | some c => s.grant c | none => s) =
      if 3 ≤ s.scrub.credit ∧ s.scrub.step = none then s.grantScrub
      else if s.mgmt.diagClaim.isSome then s.grantDiag
      else if s.migration.isSome ∧
          ((∃ c ∈ s.migration, c.pinned = true) ∨ s.config.migrationFairness ≤ s.seq.streak) then s.grantMigration
      else if eligible = true ∧ s.hostClaim = true then s.grantHost
      else if s.migration.isSome then s.grantMigration
      else if 1 ≤ s.scrub.credit ∧ s.scrub.step = none then s.grantScrub
      else s := by
  have hurgent : (s.scrubClaim && decide (Config.creditUrgent ≤ s.scrub.credit)) = true ↔
      3 ≤ s.scrub.credit ∧ s.scrub.step = none := by
    rw [Bool.and_eq_true, State.scrubClaim_iff, decide_eq_true_iff, Config.creditUrgent]
    exact ⟨fun h => ⟨h.2, h.1.2⟩, fun h => ⟨⟨by omega, h.2⟩, h.1⟩⟩
  have hfirst : (s.migrationClaim && s.migrationFirst) = true ↔ s.migration.isSome = true ∧
      ((∃ c ∈ s.migration, c.pinned = true) ∨ s.config.migrationFairness ≤ s.seq.streak) := by
    rw [Bool.and_eq_true, State.migrationFirst, Bool.or_eq_true, State.pinned_iff, decide_eq_true_iff]
    rfl
  have hlist : (match s.firstClaim eligible with | some c => s.grant c | none => s) =
      if s.scrubClaim && decide (Config.creditUrgent ≤ s.scrub.credit) then s.grantScrub
      else if s.mgmt.diagClaim.isSome then s.grantDiag
      else if s.migrationClaim && s.migrationFirst then s.grantMigration
      else if eligible && s.hostClaim then s.grantHost
      else if s.migrationClaim then s.grantMigration
      else if s.scrubClaim then s.grantScrub
      else s := by
    unfold State.firstClaim
    split_ifs <;> rfl
  rw [hlist]
  exact if_congr hurgent rfl <| if_congr Iff.rfl rfl <| if_congr hfirst rfl <|
    if_congr (iff_of_eq (Bool.and_eq_true _ _)) rfl <| if_congr Iff.rfl rfl <| if_congr State.scrubClaim_iff rfl rfl

/-- Outside FILLING the precedence list chooses, with the host eligible but in HOLD (R40). -/
theorem State.grantChoice_running (hrunning : s.lifecycle.isFilling = false) :
    s.grantChoice = s.firstClaim (decide (s.lifecycle ≠ .hold)) := by
  unfold State.grantChoice
  cases hlifecycle : s.lifecycle with
  | filling back => simp [hlifecycle, Lifecycle.isFilling] at hrunning
  | hold | opened | draining => simp

/-- Settles O24: FILL alone in FILLING, else the precedence list. -/
theorem grantFollowsPrecedence : Obligations.GrantFollowsPrecedence := by
  intro s hhigh hfree
  rw [exec_grantDecision hhigh hfree]
  refine ⟨fun hfilling => ?_, fun hrunning => ?_⟩
  · cases hlifecycle : s.lifecycle with
    | filling back =>
      by_cases hmore : s.fillCursor < s.W
      · simp [State.grantChoice, State.fillClaim, hlifecycle, hmore, State.grant, State.grantFill]
      · simp [State.grantChoice, State.fillClaim, hlifecycle, hmore]
    | hold | opened | draining => simp [hlifecycle, Lifecycle.isFilling] at hfilling
  · rw [State.grantChoice_running hrunning, grant_firstClaim]
    simp only [decide_eq_true_iff]

/-- The oldest WAITING request is blocked exactly by a pinned migration of a word it writes (R41). -/
theorem State.blocked_iff {r : Request} : s.blocked r = true ↔
    ∃ c ∈ s.migration, c.pinned = true ∧ r.kind = .write ∧
      r.address.toNat ≤ c.logical ∧ c.logical < r.address.toNat + r.beatCount := by
  unfold State.blocked
  cases s.migration with
  | none => simp
  | some c => simp [Request.names, and_assoc]

/-- Settles O25: the first WAITING place is the one a host grant takes; the other grants are as their definitions say. -/
theorem grantsSetTheTenure : Obligations.GrantsSetTheTenure := by
  intro s
  refine ⟨fun ahead behind pl hqueue hahead hpl => ⟨?_, ?_⟩, fun hnone => ?_, fun c hc => ?_, fun p hp => ?_,
    fun p hp => ?_, rfl⟩
  · have hwaiting : s.oldestWaiting = some pl := by
      rw [State.oldestWaiting, hqueue]
      exact find?_state_append hahead hpl
    rw [hostClaim_iff, ← State.blocked_iff, Bool.not_eq_true]
    simp [hwaiting]
  · rw [State.grantHost, hqueue, moveFirst_append hahead hpl]
    rfl
  · have hwaiting : s.oldestWaiting = none := List.find?_eq_none.mpr (by simpa using hnone)
    simp only [State.hostClaim, hwaiting]
  · simp only [State.grantMigration, hc]
    cases hphase : c.phase <;> simp [State.phaseAddress, hphase, State.slotAddress]
  · simp only [State.grantDiag, hp]
  · simp only [State.grantDiag, hp]

end Sys2Proof.Machine

/-! ## Time, the scrub step, the migration's tenures and the fill: O32 to O37, O39 -/

namespace Sys2Proof.Machine

variable {s t : State}

/-! ### Time (R60, R62, R64) -/

theorem exec_referenceClockPeriod (hhigh : s.pins.resetLow = false) : exec .referenceClockPeriod s =
    .next { s with scrub := { s.scrub with periodCount := min (s.scrub.periodCount + 1) s.config.timebaseDiv } } :=
  whileRunning_high hhigh _

theorem exec_microsecondTick (hhigh : s.pins.resetLow = false) (hdue : s.config.timebaseDiv ≤ s.scrub.periodCount) :
    exec .microsecondTick s = .next { s with
      scrub := { s.scrub with
        periodCount := 0, microseconds := s.scrub.microseconds + 1,
        timer := timerTick s.config.scrubInterval s.scrub.timer } } := by
  simp only [exec, execMicrosecondTick, if_pos hdue, whileRunning_high hhigh]

/-- Settles O32: a count below its limit rises, and one at its limit waits. -/
theorem clockRowsAdvanceTime : Obligations.ClockRowsAdvanceTime := by
  intro s hhigh
  refine ⟨fun hless => ?_, fun hdue => ?_, fun hless => ?_, fun hdue => ⟨fun hstopped => ?_, fun e he hless => ?_,
    fun he => ?_⟩, fun hearly => ?_, fun he => ⟨fun hcredit => ?_, fun hcredit => ?_⟩⟩
  · rw [exec_referenceClockPeriod hhigh, Nat.min_eq_left hless]
  · rw [exec_referenceClockPeriod hhigh, Nat.min_eq_right (by omega), ← hdue]
  · simp only [exec, execMicrosecondTick, if_neg (Nat.not_le.mpr hless)]
  · rw [exec_microsecondTick hhigh hdue.ge, hstopped, timerTick, ← hstopped]
  · rw [exec_microsecondTick hhigh hdue.ge, he, timerTick, Nat.min_eq_left hless]
  · rw [exec_microsecondTick hhigh hdue.ge, he, timerTick, Nat.min_eq_right (Nat.le_succ _), ← he]
  · obtain hstopped | ⟨e, he, hless⟩ := hearly
    · simp only [exec, execIntervalExpiry, hstopped]
    · simp only [exec, execIntervalExpiry, he, if_neg (Nat.not_le.mpr hless)]
  · simp only [exec, execIntervalExpiry, he, Nat.le_refl, if_true, Config.creditMax, if_pos hcredit,
      whileRunning_high hhigh]
  · simp only [exec, execIntervalExpiry, he, Nat.le_refl, if_true, Config.creditMax, if_neg (Nat.not_lt.mpr hcredit),
      whileRunning_high hhigh]
    rfl

/-! ### The scrub step (R65, R69, R71) -/

theorem State.scrubAt_clean {p : Nat} (h : (s.decodeAt p).found = .clean) : s.scrubAt p = s := by
  simp only [State.scrubAt, h]

theorem State.scrubAt_correctable {p b : Nat} (h : (s.decodeAt p).found = .correctable)
    (hb : (s.decodeAt p).bitPosition = some b) :
    s.scrubAt p = ((s.store p (encodeWord (s.decodeAt p).output)).report .scrubStep p).offer
      (.ce .scrub p b (s.decodeAt p).syndrome) := by
  simp only [State.scrubAt, h, hb, Option.getD_some]

theorem State.scrubAt_uncorrectable {p : Nat} {f : UEForm} (h : (s.decodeAt p).found = .uncorrectable f) :
    s.scrubAt p = s.offer (.ue .scrub p (s.decodeAt p).syndrome) := by
  simp only [State.scrubAt, h]

/-- Settles O33: the class of the target decides, and then where the cursor stands. -/
theorem scrubStepChecksItsTarget : Obligations.ScrubStepChecksItsTarget := by
  intro s st hhigh htenure hstep
  refine ⟨fun hundecoded hexists => ?_, fun hdecoded => ⟨fun hmoved => ?_, fun hmoved hless => ?_, fun hmoved hlast => ?_⟩⟩
  · have hread : exec .scrubDecode s =
        .next (({ s with scrub := { s.scrub with step := some { st with decoded := true } } } : State).scrubAt
          st.target) := by
      simp only [exec, execScrubDecode, if_pos htenure, hstep, hundecoded, Bool.false_eq_true, if_false,
        atArray_of_lt hexists, whileRunning_high hhigh]
    rw [hread]
    exact ⟨fun h => congrArg _ (State.scrubAt_clean h), fun b h hb => congrArg _ (State.scrubAt_correctable h hb),
      fun f h => congrArg _ (State.scrubAt_uncorrectable h)⟩
  all_goals
    simp only [exec, execScrubStepCompletion, if_pos htenure, hstep, hdecoded, hmoved, if_true, Bool.false_eq_true,
      if_false, whileRunning_high hhigh]
  · rw [cursorNext, if_pos hless]
  · rw [cursorNext, if_neg (by omega)]

/-! ### Allocation (R20) -/

/-- Allocation takes the one FREE slot that has no FREE slot below it. -/
theorem State.lowestFree_eq_some {k : Fin 64} (hfree : s.tu.pool[k] = .free)
    (hlowest : ∀ j : Fin 64, j < k → s.tu.pool[j] ≠ .free) : s.lowestFree = some k := by
  cases hfound : s.lowestFree with
  | none => exact absurd hfree (State.lowestFree_none.mp hfound k)
  | some j =>
    obtain ⟨hj, i, hi, hget, hbefore⟩ := List.find?_eq_some_iff_getElem.mp hfound
    rw [List.getElem_finRange] at hget
    refine congrArg some (le_antisymm (not_lt.mp fun hlt => ?_) (not_lt.mp fun hlt => hlowest j hlt ?_))
    · have hk : k.val < i := by rw [← hget] at hlt; exact hlt
      have hnot := hbefore k.val hk
      rw [List.getElem_finRange] at hnot
      simp [State.slotIsFree, hfree] at hnot
    · exact State.slotIsFree_iff.mp hj

/-! ### A migration's start (R96 to R98) -/

theorem State.canStart_iff : s.canStart = true ↔
    s.migration = none ∧ (s.lifecycle = .opened ∨ s.lifecycle = .hold) ∧ s.retq ≠ [] := by
  simp [State.canStart, and_assoc]

/-- Settles O34: the lowest FREE slot decides between the two starts. -/
theorem startReservesLowestFreeSlot : Obligations.StartReservesLowestFreeSlot := by
  intro s r rest hhigh hnone hstate hretq
  have hstart : s.canStart = true := State.canStart_iff.mpr ⟨hnone, hstate, by simp [hretq]⟩
  refine ⟨fun k hfree hlowest => ?_, fun hfull => ?_⟩
  · have hslot : State.lowestFree { s with retq := rest } = some k := State.lowestFree_eq_some hfree hlowest
    simp only [exec, execMigrationStart, hretq, hstart, if_true, hslot, whileRunning_high hhigh]
    rfl
  · have hslot : State.lowestFree { s with retq := rest } = none := State.lowestFree_none.mpr hfull
    simp only [exec, execMigrationStart, hretq, hstart, if_true, hslot, whileRunning_high hhigh]
    rfl

/-! ### The copy (R99 to R101) -/

theorem exec_copyRead {c : MigrationContext} {p : Nat} {d : DataWord} (hhigh : s.pins.resetLow = false)
    (hcontext : s.migration = some c) (hexists : p < s.W) (htenure : s.seq.tenure = .migration .copyRead p d true) :
    exec .copyReadCompletion s = .next (s.freePort.copyReadOutcome c (s.decodeAt p)) := by
  simp only [exec, execCopyReadCompletion, htenure, hcontext, atArray_of_lt hexists, whileRunning_high hhigh, if_true]

theorem State.copyReadOutcome_clean {d : Decoded} (h : d.found = .clean) (c : MigrationContext) :
    s.copyReadOutcome c d = s.setContext { c with buffer := some d.output, phase := .copyWrite } := by
  simp only [State.copyReadOutcome, h]

theorem State.copyReadOutcome_correctable {d : Decoded} {b : Nat} (h : d.found = .correctable)
    (hb : d.bitPosition = some b) (c : MigrationContext) :
    s.copyReadOutcome c d = (s.setContext { c with buffer := some d.output, phase := .copyWrite }).offer
      (.ce (.migrate c.logical) c.source b d.syndrome) := by
  simp only [State.copyReadOutcome, h, hb, Option.getD_some]

theorem State.copyReadOutcome_uncorrectable {d : Decoded} {f : UEForm} (h : d.found = .uncorrectable f)
    (c : MigrationContext) : s.copyReadOutcome c d = s.abandon c d.syndrome := by
  simp only [State.copyReadOutcome, h]

/-- Settles O35: the class of the source decides after a COPY_READ. -/
theorem copyTenuresMoveTheWord : Obligations.CopyTenuresMoveTheWord := by
  intro s c p d hhigh hcontext hexists
  refine ⟨fun htenure => ?_, fun htenure => ?_⟩
  · rw [exec_copyRead hhigh hcontext hexists htenure]
    refine ⟨fun h => congrArg _ (State.copyReadOutcome_clean h c),
      fun b h hb => congrArg _ (State.copyReadOutcome_correctable h hb c), fun f h => congrArg _ ?_⟩
    refine (State.copyReadOutcome_uncorrectable h c).trans ?_
    simp only [State.abandon, State.offer, State.freePort, State.endContext, List.append_assoc]
    rfl
  · simp only [exec, execCopyWriteCompletion, htenure, hcontext, atArray_of_lt hexists, whileRunning_high hhigh, if_true]
    rfl

/-! ### The verify (R102 to R108) -/

theorem exec_verify {c : MigrationContext} {p : Nat} {d : DataWord} (hhigh : s.pins.resetLow = false)
    (hcontext : s.migration = some c) (hexists : p < s.W) (htenure : s.seq.tenure = .migration .verify p d true) :
    exec .verifyCompletion s = .next (s.freePort.verifyOutcome c (s.decodeAt p)) := by
  simp only [exec, execVerifyCompletion, htenure, hcontext, atArray_of_lt hexists, whileRunning_high hhigh, if_true]

theorem State.verifyOutcome_good {c : MigrationContext} {d : Decoded} (h : d.found = .clean ∧ c.buffer = some d.output) :
    s.verifyOutcome c d = if c.dirty then s.verifyDirty c else s.install c := if_pos h

theorem State.verifyOutcome_bad {c : MigrationContext} {d : Decoded}
    (h : ¬ (d.found = .clean ∧ c.buffer = some d.output)) : s.verifyOutcome c d = s.verifyFailed c d.found := if_neg h

theorem State.install_unmapped {c : MigrationContext} (h : s.mappedSlot c.logical = none) :
    s.install c =
      ((((s.setEntry c.target (some ⟨c.logical, .migrated, 1⟩)).setSlot c.target .inUse).offer
        (.migrationDone c.logical c.source c.target)).dropWatch c.source).endContext := by
  simp only [State.install, State.installEntry, h]

theorem State.install_mapped {c : MigrationContext} {old : Fin 64} {e : RepairEntry}
    (h : s.mappedSlot c.logical = some old) (he : s.tu.table[old] = some e) :
    s.install c =
      (((((((s.setEntry old none).setEntry c.target (some ⟨c.logical, .migrated, min (e.moves + 1) 15⟩)).setSlot c.target
        .inUse).setSlot old .bad)).offer (.migrationDone c.logical c.source c.target)).dropWatch c.source).endContext := by
  simp only [State.install, State.installEntry, h, he]
  rfl

/-- The slots that are FREE once the failed target is BAD (R104). -/
theorem State.pool_after_failure {k j : Fin 64} (o : Offer) (hj : j ≠ k) :
    ((s.setSlot k .bad).offer o).tu.pool[j] = s.tu.pool[j] :=
  (s.setSlot_pool k j .bad).trans (if_neg hj.symm)

theorem State.pool_failed (s : State) (k : Fin 64) (o : Offer) : ((s.setSlot k .bad).offer o).tu.pool[k] = .bad :=
  (s.setSlot_pool k k .bad).trans (if_pos rfl)

theorem State.verifyFailed_replaced {c : MigrationContext} {k : Fin 64} (found : WordClass) (hne : k ≠ c.target)
    (hfree : s.tu.pool[k] = .free) (hlowest : ∀ j : Fin 64, j < k → j ≠ c.target → s.tu.pool[j] ≠ .free) :
    s.verifyFailed c found =
      (((s.setSlot c.target .bad).offer (.spareFail c.target c.logical found)).setSlot k .reserved).setContext
        { c with target := k, dirty := false, phase := if c.dirty then .copyRead else .copyWrite } := by
  have hslot : ((s.setSlot c.target .bad).offer (.spareFail c.target c.logical found)).lowestFree = some k := by
    refine State.lowestFree_eq_some ((State.pool_after_failure _ hne).trans hfree) fun j hj => ?_
    by_cases htarget : j = c.target
    · rw [htarget, State.pool_failed]
      nofun
    · rw [State.pool_after_failure _ htarget]
      exact hlowest j hj htarget
  simp only [State.verifyFailed, hslot]

theorem State.verifyFailed_exhausted {c : MigrationContext} (found : WordClass)
    (hfull : ∀ k : Fin 64, k ≠ c.target → s.tu.pool[k] ≠ .free) :
    s.verifyFailed c found =
      ((((s.setSlot c.target .bad).offer (.spareFail c.target c.logical found)).offer
        (.slotsExhausted c.logical)).setWatch c.source .stuck).endContext := by
  have hslot : ((s.setSlot c.target .bad).offer (.spareFail c.target c.logical found)).lowestFree = none := by
    refine State.lowestFree_none.mpr fun j => ?_
    by_cases htarget : j = c.target
    · rw [htarget, State.pool_failed]
      nofun
    · rw [State.pool_after_failure _ htarget]
      exact hfull j htarget
  simp only [State.verifyFailed, hslot]

/-- Settles O36: the judgement, the dirty mark and the slots left decide. -/
theorem verifyInstallsRestartsOrReplaces : Obligations.VerifyInstallsRestartsOrReplaces := by
  intro s c p d hhigh hcontext hexists htenure
  rw [exec_verify hhigh hcontext hexists htenure]
  refine ⟨fun hgood hdirty => ?_, fun hgood hclean => ?_, fun hbad => ?_⟩
  · rw [State.verifyOutcome_good (d := s.decodeAt p) hgood, if_pos hdirty]
    exact ⟨fun hless => congrArg _ (if_pos hless), fun hthree => congrArg _ (if_neg (Nat.not_lt.mpr hthree))⟩
  · rw [State.verifyOutcome_good (d := s.decodeAt p) hgood, if_neg (by simp [hclean])]
    exact ⟨fun hnone => congrArg _ (State.install_unmapped (s := s.freePort) hnone),
      fun old e hold he => congrArg _ (State.install_mapped (s := s.freePort) hold he)⟩
  · rw [State.verifyOutcome_bad (d := s.decodeAt p) hbad]
    refine ⟨fun k hne hfree hlowest =>
      congrArg _ (State.verifyFailed_replaced (s := s.freePort) _ hne hfree hlowest), fun hfull => congrArg _ ?_⟩
    refine (State.verifyFailed_exhausted (s := s.freePort) _ hfull).trans ?_
    simp only [State.offer, State.freePort, State.endContext, List.append_assoc]
    rfl

/-! ### Orphaned tenures and the fill (R38, R158) -/

/-- Settles O37: with the live mark gone, the completion is the access and the freed port. -/
theorem orphanedOutcomesAreDiscarded : Obligations.OrphanedOutcomesAreDiscarded := by
  intro s p d hhigh hexists
  refine ⟨fun htenure => ?_, fun htenure => ?_, fun htenure => ?_⟩
  all_goals
    simp only [exec, execCopyReadCompletion, execVerifyCompletion, execCopyWriteCompletion, htenure,
      atArray_of_lt hexists, whileRunning_high hhigh, Bool.false_eq_true, if_false]
    split <;> rfl

/-- Settles O39: the cursor one further decides whether FILLING ends. -/
theorem fillWritesZeroWords : Obligations.FillWritesZeroWords := by
  intro s p back hhigh htenure hexists hlifecycle
  have hfilled : exec .fillWordCompletion s =
      .next (if s.fillCursor + 1 = s.W then
        State.endFilling { (s.store p ⟨0, 0⟩).freePort with fillCursor := s.fillCursor + 1 } back
      else { (s.store p ⟨0, 0⟩).freePort with fillCursor := s.fillCursor + 1 }) := by
    simp only [exec, execFillWordCompletion, htenure, hlifecycle, atArray_of_lt hexists, whileRunning_high hhigh]
  rw [hfilled]
  refine ⟨fun hmore => ?_, fun hlast hidle => ?_, fun hlast hbusy => ?_⟩
  · rw [if_neg hmore]
    rfl
  · rw [if_pos hlast]
    refine congrArg _ ((if_neg (by simpa using hidle)).trans ?_)
    cases back <;> rfl
  · rw [if_pos hlast]
    refine congrArg _ ((if_pos hbusy).trans ?_)
    cases back <;> rfl

end Sys2Proof.Machine

/-! ## Frames and words of the Management Port: O44 to O47 -/

namespace Sys2Proof.Machine

variable {s t : State}

/-! ### The start of a frame (R168) -/

/-- A frame that accepts has begun once SSN has fallen, with no kind known. -/
theorem State.openFrame_accepts (h : s.frameAccepts = true) :
    ∃ n, s.openFrame = { s with
      pins := { s.pins with ssnLow := true }, mgmt := { s.mgmt with frame := .running .fresh n } } := by
  obtain ⟨n, hframe⟩ := State.openFrame_frame h
  refine ⟨n, ?_⟩
  rw [← hframe]
  unfold State.openFrame
  split
  · next hlow => rw [← hlow]
  · rfl

theorem State.openFrame_low_ssn (h : s.pins.ssnLow = true) : s.openFrame = s := if_pos h

/-! ### Codes, kinds and the bytes of a frame (R167, R178, R184) -/

theorem frameName_eq_none {kind : BitVec 8} (h : kind.toNat = 0 ∨ 4 < kind.toNat) : frameName kind = none := by
  unfold frameName
  split <;> first | omega | rfl

theorem windowOfCode_eq (code : BitVec 8) : windowOfCode code =
    if code = 0x10 then some .config else if code = 0x11 then some .status
    else if code = 0x12 then some .migration else if code = 0x13 then some .repair
    else if code = 0x14 then some .slots else if code = 0x15 then some .watch
    else if code = 0x16 then some .retq else if code = 0x17 then some .log
    else if code = 0x18 then some .diag else none := by
  split_ifs with h0 h1 h2 h3 h4 h5 h6 h7 h8
  case neg =>
    have hne {n : Nat} (hn : n < 256) (h : code ≠ BitVec.ofNat 8 n) : code.toNat ≠ n := fun heq =>
      h (BitVec.eq_of_toNat_eq (by rw [heq, BitVec.toNat_ofNat, Nat.mod_eq_of_lt hn]))
    unfold windowOfCode
    split
    · exact absurd ‹_› (hne (by decide) h0)
    · exact absurd ‹_› (hne (by decide) h1)
    · exact absurd ‹_› (hne (by decide) h2)
    · exact absurd ‹_› (hne (by decide) h3)
    · exact absurd ‹_› (hne (by decide) h4)
    · exact absurd ‹_› (hne (by decide) h5)
    · exact absurd ‹_› (hne (by decide) h6)
    · exact absurd ‹_› (hne (by decide) h7)
    · exact absurd ‹_› (hne (by decide) h8)
    · rfl
  all_goals subst code; rfl

/-- A word's four bytes spell it. -/
theorem append_wordBytes (a : MgmtWord) :
    a.extractLsb' 24 8 ++ a.extractLsb' 16 8 ++ a.extractLsb' 8 8 ++ a.extractLsb' 0 8 = a := by
  rw [BitVec.extractLsb'_append_extractLsb'_eq_extractLsb' (by decide),
    BitVec.extractLsb'_append_extractLsb'_eq_extractLsb' (by decide),
    BitVec.extractLsb'_append_extractLsb'_eq_extractLsb' (by decide)]
  exact BitVec.extractLsb'_eq_self

theorem wordsOf_wordBytes (a : MgmtWord) (extra : List (BitVec 8)) :
    wordsOf (wordBytes a ++ extra) = a :: wordsOf extra := by
  change (_ :: _) = _
  rw [append_wordBytes]
  rfl

theorem length_wordsOf (bytes : List (BitVec 8)) : 4 * (wordsOf bytes).length ≤ bytes.length := by
  induction bytes using wordsOf.induct with
  | case1 b3 b2 b1 b0 rest ih =>
    simp only [wordsOf, List.length_cons]
    omega
  | case2 bytes hshort => simp [wordsOf]

theorem frameRow_command (code : BitVec 8) (rest : List (BitVec 8)) :
    frameRow (0x04 :: code :: rest) = commandRow code (wordsOf rest) := rfl

theorem commandForm_eq_none {code : BitVec 8} (h : code ∉ commandCodes) : commandForm code = none := by
  simp only [commandCodes, List.mem_cons, not_or, List.not_mem_nil, not_false_eq_true, and_true] at h
  simp only [commandForm, h, if_false]

/-- A command with an argument word missing spells no row. -/
theorem commandRow_one {code : BitVec 8} {row : MgmtWord → Instr} (h : commandForm code = some (.one row)) :
    commandRow code [] = none := by
  simp only [commandRow, h]

theorem commandRow_two {code : BitVec 8} {row : MgmtWord → MgmtWord → Instr} (h : commandForm code = some (.two row))
    {words : List MgmtWord} (hshort : words.length < 2) : commandRow code words = none := by
  match words with
  | [] | [_] => simp only [commandRow, h]
  | _ :: _ :: _ => simp at hshort

/-- The rows for frames, SELECT and unknown codes. -/
theorem exec_frames (s : State) :
    (s.pins.resetLow = false → s.pins.ssnLow = false →
      exec .frameStart s = .next { s with
        pins := { s.pins with ssnLow := true }, mgmt := { s.mgmt with frame := .running .fresh 0 } }) ∧
    exec .frameEnd s = .next s.frameEnded ∧
    (∀ kind : BitVec 8, s.frameAccepts = true → kind.toNat = 0 ∨ 4 < kind.toNat →
      exec (.unknownFrameKind kind) s = .next { s with
        pins := { s.pins with ssnLow := true },
        mgmt := { s.mgmt with frame := .running .unknown 8, accessError := true } }) ∧
    (∀ code : BitVec 8, s.CommandReady → code ∉ commandCodes →
      exec (.unknownCommand code) s = .next ((s.taken code).answer .unknown)) ∧
    (∀ (code : BitVec 8) (index : BitVec 16), s.frameAccepts = true →
      (∀ w, windowOfCode code = some w →
        exec (.select code index) s = .next { s.frameEnded with
          mgmt := { s.frameEnded.mgmt with window := w, pointer := min index.toNat w.lastIndex } }) ∧
      (windowOfCode code = none →
        exec (.select code index) s = .next { s.frameEnded with
          mgmt := { s.frameEnded.mgmt with window := .none, pointer := 0, accessError := true } })) := by
  refine ⟨fun hhigh hssn => ?_, rfl, fun kind haccepts hkind => ?_, fun code hready hunknown => ?_,
    fun code index haccepts => ⟨fun w hw => ?_, fun hnone => ?_⟩⟩
  · simp only [exec, execFrameStart, State.openFrame, hhigh, hssn, Bool.false_eq_true, if_false]
  · obtain ⟨n, hopen⟩ := State.openFrame_accepts haccepts
    have hunknown : ¬ frameKindKnown kind = true := by simp [frameKindKnown, frameName_eq_none hkind]
    simp only [exec, execUnknownFrameKind, if_neg hunknown, hopen]
  · simp only [exec, execUnknownCommand, List.contains_iff_mem, hunknown, if_false]
    exact congrArg _ (State.takeCommand_ready hready _ _)
  · simp only [exec, execSelect, State.atFrameEnd_accepts haccepts, hw]
  · simp only [exec, execSelect, State.atFrameEnd_accepts haccepts, hnone]

/-- The rows that complete frames spell. -/
theorem frameRow_complete (a b : MgmtWord) (extra : List (BitVec 8)) :
    frameRow (0x04 :: 0x20 :: wordBytes a ++ wordBytes b ++ extra) = some (.map a b) ∧
    ([0x21, 0x22, 0x23, 0x30, 0x31, 0x38, 0x40].map fun code => frameRow (0x04 :: code :: wordBytes a ++ extra)) =
      [.unmap a, .slotFree a, .slotBad a, .peek a, .poke a, .scrubSeek a, .retire a].map some ∧
    ([0x41, 0x48, 0x50, 0x51, 0x52, 0x60, 0x61, 0x62, 0x6F].map fun code => frameRow (0x04 :: code :: extra)) =
      [.clearWatch, .cancelMigration, .popLog, .clearLog, .clearSummary, .openArray, .closeArray, .fillArray,
        .softReset].map some ∧
    (∀ code ∉ commandCodes, frameRow (0x04 :: code :: extra) = some (.unknownCommand code)) ∧
    (∀ (code : BitVec 8) (index : BitVec 16),
      frameRow (0x01 :: code :: index.extractLsb' 8 8 :: index.extractLsb' 0 8 :: extra) =
        some (.select code index)) ∧
    (∀ kind : BitVec 8, kind.toNat = 0 ∨ 4 < kind.toNat → frameRow (kind :: extra) = some (.unknownFrameKind kind)) ∧
    wordsOf (wordBytes a ++ extra) = a :: wordsOf extra := by
  refine ⟨?_, ?_, rfl, fun code hunknown => ?_, fun code index => ?_, fun kind hkind => ?_, wordsOf_wordBytes a extra⟩
  · rw [List.append_assoc]
    change commandRow 0x20 (wordsOf (wordBytes a ++ (wordBytes b ++ extra))) = _
    rw [wordsOf_wordBytes, wordsOf_wordBytes]
    rfl
  · have hrow (code : BitVec 8) :
        frameRow (0x04 :: code :: wordBytes a ++ extra) = commandRow code (a :: wordsOf extra) :=
      (frameRow_command code _).trans (congrArg (commandRow code) (wordsOf_wordBytes a extra))
    simp only [hrow]
    rfl
  · simp only [frameRow_command, commandRow, commandForm_eq_none hunknown]
  · have hindex : index.extractLsb' 8 8 ++ index.extractLsb' 0 8 = index := by
      rw [BitVec.extractLsb'_append_extractLsb'_eq_extractLsb' (by decide)]
      exact BitVec.extractLsb'_eq_self
    change some (Instr.select code (_ ++ _)) = _
    rw [hindex]
  · simp only [frameRow, frameName_eq_none hkind]

/-- The bytes of incomplete frames spell no row. -/
theorem frameRow_incomplete (bytes : List (BitVec 8)) :
    frameRow [] = none ∧ frameRow [0x04] = none ∧
    (bytes.length < 3 → frameRow (0x01 :: bytes) = none) ∧
    (bytes.length < 8 → frameRow (0x04 :: 0x20 :: bytes) = none) ∧
    (bytes.length < 4 → wordsOf bytes = [] ∧
      ∀ code ∈ ([0x21, 0x22, 0x23, 0x30, 0x31, 0x38, 0x40] : List (BitVec 8)), frameRow (0x04 :: code :: bytes) = none) ∧
    frameRow (0x02 :: bytes) = none ∧ frameRow (0x03 :: bytes) = none := by
  have hwords := length_wordsOf bytes
  refine ⟨rfl, rfl, fun hshort => ?_, fun hshort => ?_, fun hshort => ?_, rfl, rfl⟩
  · match bytes with
    | [] | [_] | [_, _] => rfl
    | _ :: _ :: _ :: _ =>
      simp only [List.length_cons] at hshort
      omega
  · rw [frameRow_command]
    exact commandRow_two (row := .map) rfl (by omega)
  · have hnone : wordsOf bytes = [] := List.length_eq_zero_iff.mp (by omega)
    refine ⟨hnone, fun code hcode => ?_⟩
    rw [frameRow_command, hnone]
    simp only [List.mem_cons, List.not_mem_nil, or_false] at hcode
    obtain rfl | rfl | rfl | rfl | rfl | rfl | rfl := hcode <;> rfl

/-- Settles O44: the rows for frames, the two code tables, and the rows that bytes spell. -/
theorem framesSelectAndUnknownCodes : Obligations.FramesSelectAndUnknownCodes :=
  ⟨exec_frames, windowOfCode_eq, rfl, rfl, frameRow_complete, frameRow_incomplete⟩

/-! ### READ_WORD (R171, R172) -/

/-- A window's word does not depend on the pins or on the frame, which are in no window. -/
theorem State.windowWord_frame (s : State) (pins : Pins) (frame : Frame) (w : Window) (i : Nat) :
    State.windowWord { s with pins := pins, mgmt := { s.mgmt with frame := frame } } w i = s.windowWord w i := by
  cases w <;> rfl

/-- Settles O45: the row begins its own frame, or goes on with a READ frame. -/
theorem readWordShiftsTheHolder : Obligations.ReadWordShiftsTheHolder := by
  intro s n hhigh hframe
  obtain ⟨haccepts, rfl⟩ | ⟨hssn, m, hframe, rfl⟩ := hframe
  · obtain ⟨k, hopen⟩ := State.openFrame_accepts haccepts
    refine ⟨_, rfl, ?_, ?_⟩
    · simp only [State.takeReadWord, hopen, State.windowWord_frame]
      rfl
    · simp only [State.takeReadWord, hopen]
      rfl
  · refine ⟨_, rfl, ?_, ?_⟩
    · simp only [State.takeReadWord, State.openFrame_low_ssn hssn, hframe]
      rw [← hssn]
      rfl
    · simp only [State.takeReadWord, State.openFrame_low_ssn hssn, hframe, State.misoWord, State.advancePointer, hssn,
        if_true]

/-! ### WRITE_WORD (R173 to R176) -/

/-- s in a WRITE frame, n bits into it. -/
def State.writing (s : State) (n : Nat) : State :=
  { s with pins := { s.pins with ssnLow := true }, mgmt := { s.mgmt with frame := .running .write n } }

/-- A word of a WRITE frame is offered to the window, and the pointer advances, whether the row begins the frame or goes on
with one. -/
theorem exec_writeWord {n : Nat} (hframe : s.frameAccepts = true ∧ n = 40 ∨
    s.pins.ssnLow = true ∧ ∃ m, s.mgmt.frame = .running .write m ∧ n = m + 32) (v : MgmtWord) :
    exec (.writeWord v) s = .next ((s.writing n).storeWord v).advancePointer := by
  obtain ⟨haccepts, rfl⟩ | ⟨hssn, m, hframe, rfl⟩ := hframe
  · obtain ⟨k, hopen⟩ := State.openFrame_accepts haccepts
    simp only [exec, execWriteWord, State.takeWriteWord, hopen]
    rfl
  · simp only [exec, execWriteWord, State.takeWriteWord, State.openFrame_low_ssn hssn, hframe]
    rw [State.writing, ← hssn]

theorem State.storeWord_config (hwindow : s.mgmt.window = .config) (v : MgmtWord) :
    s.storeWord v = s.writeConfig s.mgmt.pointer v := by
  simp only [State.storeWord, hwindow]

theorem State.storeWord_diag (hwindow : s.mgmt.window = .diag) (v : MgmtWord) :
    s.storeWord v = s.writeDiag s.mgmt.pointer v := by
  simp only [State.storeWord, hwindow]

theorem State.storeWord_readOnly (hconfig : s.mgmt.window ≠ .config) (hdiag : s.mgmt.window ≠ .diag) (v : MgmtWord) :
    s.storeWord v = s.refuseWrite := by
  unfold State.storeWord
  split
  · exact absurd ‹_› hconfig
  · exact absurd ‹_› hdiag
  all_goals rfl

/-- A row for one CONFIG word, at that word, is a WRITE word there (log 18). -/
theorem State.writeAtConfig_eq {i : Nat} (hwindow : s.mgmt.window = .config) (hpointer : s.mgmt.pointer = i) (v : MgmtWord) :
    s.writeAtConfig i v = s.takeWriteWord v := if_pos ⟨hwindow, hpointer⟩

/-- s with the pointer at p. -/
def State.pointTo (s : State) (p : Nat) : State := { s with mgmt := { s.mgmt with pointer := p } }

theorem State.advancePointer_eq (s : State) : s.advancePointer = s.pointTo s.nextPointer := rfl

/-- A word offered to CONFIG leaves the window and the pointer. -/
theorem State.nextPointer_writeConfig (s : State) (i : Nat) (v : MgmtWord) :
    (s.writeConfig i v).nextPointer = s.nextPointer := by
  unfold State.writeConfig
  split
  all_goals first | rfl | (split <;> rfl)

/-- A WRITE word at CONFIG. -/
theorem exec_configWord {n i : Nat} (hwindow : s.mgmt.window = .config) (hpointer : s.mgmt.pointer = i) (hi : i ≤ 5)
    (hframe : s.frameAccepts = true ∧ n = 40 ∨
      s.pins.ssnLow = true ∧ ∃ m, s.mgmt.frame = .running .write m ∧ n = m + 32) (v : MgmtWord) :
    exec (.writeWord v) s = .next (((s.writing n).writeConfig i v).pointTo (min (s.mgmt.pointer + 1) 5)) := by
  have hstore : (s.writing n).storeWord v = (s.writing n).writeConfig i v := by
    rw [State.storeWord_config (s := s.writing n) hwindow, ← hpointer]
    rfl
  have hnext : (s.writing n).nextPointer = min (s.mgmt.pointer + 1) 5 := by
    simp only [State.nextPointer, State.writing, hwindow, hpointer, Window.lastIndex]
    split <;> omega
  rw [exec_writeWord hframe, hstore, State.advancePointer_eq, State.nextPointer_writeConfig, hnext]

/-- SCRUB_INTERVAL starts the timer from zero, but not in FILLING and not with the value 0 (R61). -/
theorem State.writeConfig_interval (s : State) (v : MgmtWord) :
    s.writeConfig 1 v = if v.toNat ≤ 65535 then
      { s with
        config := { s.config with scrubInterval := v.toNat },
        scrub := { s.scrub with timer := if s.lifecycle.isFilling = true ∨ v.toNat = 0 then none else some 0 } }
      else s.refuseWrite := by
  cases hl : s.lifecycle <;>
    simp only [State.writeConfig, startTimer, hl, Lifecycle.isFilling, true_or, if_true, Bool.false_eq_true, false_or]

/-- Settles O46: each row is a WRITE word at the pointer, and a word outside its range is refused. -/
theorem configWordsTakeValuesInRange : Obligations.ConfigWordsTakeValuesInRange := by
  intro s v n _ hwindow hframe
  have hrow (i : Nat) (hi : i ≤ 5) (hpointer : s.mgmt.pointer = i) :=
    exec_configWord hwindow hpointer hi hframe v
  have hat {c : Instr} (i : Nat) (hpointer : s.mgmt.pointer = i) (hc : exec c s = .next (s.writeAtConfig i v)) :
      exec c s = exec (.writeWord v) s :=
    hc.trans (congrArg _ (State.writeAtConfig_eq hwindow hpointer v))
  refine ⟨fun h0 => ?_, fun h1 c hc => ?_, fun h2 => ?_, fun h3 c hc => ?_, fun h4 c hc => ?_, fun h5 => ?_⟩
  · rw [hrow 0 (by decide) h0, State.writeConfig]
    split <;> rfl
  · have hc : exec c s = exec (.writeWord v) s := by
      obtain rfl | rfl := hc
      · rfl
      · exact hat 1 h1 rfl
    rw [hc, hrow 1 (by decide) h1, State.writeConfig_interval]
    split <;> rfl
  · rw [hrow 2 (by decide) h2, State.writeConfig]
    split <;> rfl
  · have hc : exec c s = exec (.writeWord v) s := by
      obtain rfl | rfl := hc
      · rfl
      · exact hat 3 h3 rfl
    rw [hc, hrow 3 (by decide) h3, State.writeConfig]
    split <;> rfl
  · have hc : exec c s = exec (.writeWord v) s := by
      obtain rfl | rfl := hc
      · rfl
      · exact hat 4 h4 rfl
    rw [hc, hrow 4 (by decide) h4, State.writeConfig]
    split <;> rfl
  · rw [hrow 5 (by decide) h5, State.writeConfig]
    split <;> rfl

/-- Settles O47: the read-only windows refuse, and DIAG takes a half of its data or a check byte. -/
theorem otherWindowsTakeDiagOnly : Obligations.OtherWindowsTakeDiagOnly := by
  intro s v n _ hframe
  have hrow := exec_writeWord hframe v
  refine ⟨fun hconfig hdiag => ?_, fun hdiag => ?_⟩
  · rw [hrow, State.storeWord_readOnly (s := s.writing n) hconfig hdiag]
    rfl
  have hdiagRow (i : Nat) (hpointer : s.mgmt.pointer = i) :
      exec (.writeWord v) s = .next ((s.writing n).writeDiag i v).advancePointer := by
    rw [hrow, State.storeWord_diag (s := s.writing n) hdiag, ← hpointer]
    rfl
  refine ⟨fun h0 => ⟨_, hdiagRow 0 h0, rfl, ?_, ?_⟩, fun h1 => ⟨_, hdiagRow 1 h1, rfl, ?_, ?_⟩, fun h2 => ?_,
    fun h3 => (hdiagRow 3 h3).trans rfl⟩
  · exact BitVec.extractLsb'_append_eq_right
  · exact BitVec.extractLsb'_append_eq_left
  · exact BitVec.extractLsb'_append_eq_left
  · exact BitVec.extractLsb'_append_eq_right
  · rw [hdiagRow 2 h2, State.writeDiag]
    split <;> rfl

end Sys2Proof.Machine

/-! ## One changed bit and two changed bits: O8 -/

namespace Sys2Proof.Machine

theorem xor_middle_comm (a b c d : Bool) : ((a ^^ b) ^^ (c ^^ d)) = ((a ^^ c) ^^ (b ^^ d)) := by
  rw [Bool.xor_assoc, Bool.xor_left_comm b, Bool.xor_assoc]

/-- The syndrome is linear in the 72 stored bits (R3, R4). -/
theorem syndrome_xor (x y : DataWord) (c e : CheckByte) :
    syndrome ⟨x ^^^ y, c ^^^ e⟩ = syndrome ⟨x, c⟩ ^^^ syndrome ⟨y, e⟩ := by
  have hcheckBits (j : Nat) (hj : j < 7) :
      (checkBits (x ^^^ y)).getLsbD j = ((checkBits x).getLsbD j ^^ (checkBits y).getLsbD j) := by
    have hsum (n : Nat) : positionSum (x ^^^ y) n = positionSum x n ^^^ positionSum y n := by
      induction n with
      | zero => simp [positionSum]
      | succ n ih =>
        have hterm (a b : Bool) (p : BitVec 7) :
            (if a ^^ b then p else 0) = (if a then p else 0) ^^^ (if b then p else 0) := by
          cases a <;> cases b <;> simp
        rw [positionSum, positionSum, positionSum, ih, BitVec.getLsbD_xor, hterm]
        ac_rfl
    rw [checkBits, hsum, BitVec.getLsbD_xor, checkBits, checkBits]
  refine BitVec.eq_of_getLsbD_eq fun j hj => ?_
  obtain hlow | rfl : j < 7 ∨ j = 7 := by omega
  · rw [BitVec.getLsbD_xor]
    simp only [getLsbD_syndrome_of_lt _ hlow, getLsbD_encode_of_lt _ hlow, hcheckBits j hlow, BitVec.getLsbD_xor]
    exact xor_middle_comm _ _ _ _
  · rw [BitVec.getLsbD_xor, getLsbD_syndrome_seven, getLsbD_syndrome_seven, getLsbD_syndrome_seven, parity_xor, parity_xor]
    exact xor_middle_comm _ _ _ _

theorem syndrome_encodeWord (d : DataWord) : syndrome (encodeWord d) = 0#8 := by
  have h := syndrome_encode_xor d 0#8
  rw [BitVec.xor_zero] at h
  rw [encodeWord, h]
  decide

/-- The codeword position of each of the 72 bits: a data bit's own, the power of two of c0 to c6, and none for c7 (R2). -/
def codePosition (b : Nat) : Nat :=
  if b < 64 then position b else if b < 71 then 2 ^ (b - 64) else 0

theorem codePosition_le : ∀ b < 72, codePosition b ≤ 71 := by decide

/-- The position names its bit (R6), so no two bits share one. -/
theorem namedBit_codePosition : ∀ b < 72, namedBit (codePosition b) = b := by decide

/-- A changed bit sets p, and its codeword position in s. -/
theorem syndrome_changeBit_zero :
    ∀ b < 72, syndrome (changeBit ⟨0, 0⟩ b) = BitVec.ofNat 8 (128 + codePosition b) := by decide +kernel

theorem syndrome_changeBit (w : ArrayWord) {b : Nat} (hb : b < 72) :
    syndrome (changeBit w b) = syndrome w ^^^ BitVec.ofNat 8 (128 + codePosition b) := by
  rw [← syndrome_changeBit_zero b hb]
  unfold changeBit
  split
  · simpa using syndrome_xor w.data (BitVec.twoPow 64 b) w.check 0
  · simpa using syndrome_xor w.data 0 w.check (BitVec.twoPow 8 (b - 64))

theorem syndrome_oneBit (d : DataWord) {b : Nat} (hb : b < 72) :
    syndrome (changeBit (encodeWord d) b) = BitVec.ofNat 8 (128 + codePosition b) := by
  rw [syndrome_changeBit _ hb, syndrome_encodeWord, BitVec.zero_xor]

theorem reportedBit_oneBit (d : DataWord) {b : Nat} (hb : b < 72) :
    classOf (syndrome (changeBit (encodeWord d) b)) = .correctable ∧
      reportedBit (syndrome (changeBit (encodeWord d) b)) = some b := by
  have hle := codePosition_le b hb
  have hnat : (BitVec.ofNat 8 (128 + codePosition b)).toNat = 128 + codePosition b := by
    rw [BitVec.toNat_ofNat, Nat.mod_eq_of_lt (by omega)]
  have hs : (128 + codePosition b) % 128 = codePosition b := by omega
  have hclass : classOf (syndrome (changeBit (encodeWord d) b)) = .correctable := by
    rw [syndrome_oneBit d hb, classOf, hnat, hs, if_neg (by omega), if_pos hle]
  refine ⟨hclass, ?_⟩
  rw [reportedBit_of_correctable hclass, syndrome_oneBit d hb, hnat, hs, namedBit_codePosition b hb]

/-- A data bit named is inverted back; a check bit changed leaves the data as written. -/
theorem output_oneBit (d : DataWord) {b : Nat} (hb : b < 72) :
    (decode (changeBit (encodeWord d) b)).output = d := by
  have hnamed := (reportedBit_oneBit d hb).2
  by_cases hdata : b < 64
  · rw [output_of_reported_dataBit hnamed hdata, changeBit, if_pos hdata, encodeWord, BitVec.xor_assoc, BitVec.xor_self,
      BitVec.xor_zero]
  · rw [output_of_reported_checkBit hnamed (by omega), changeBit, if_neg hdata, encodeWord]

/-- Two bits changed leave p 0 and s not 0, as their positions differ. -/
theorem classOf_twoBits (d : DataWord) {b c : Nat} (hb : b < 72) (hc : c < 72) (hne : b ≠ c) :
    classOf (syndrome (changeBit (changeBit (encodeWord d) b) c)) = .uncorrectable .double := by
  have hbit (n : Nat) (hn : n ≤ 71) : (BitVec.ofNat 8 (128 + n)).getLsbD 7 = true := by
    rw [← Bool.not_eq_false, ← toNat_lt_128_iff, BitVec.toNat_ofNat]
    omega
  have hdiffer : BitVec.ofNat 8 (128 + codePosition b) ≠ BitVec.ofNat 8 (128 + codePosition c) := fun heq => by
    have hnat := congrArg BitVec.toNat heq
    rw [BitVec.toNat_ofNat, BitVec.toNat_ofNat] at hnat
    have hbpos := codePosition_le b hb
    have hcpos := codePosition_le c hc
    have hpos : codePosition b = codePosition c := by omega
    exact hne (by rw [← namedBit_codePosition b hb, hpos, namedBit_codePosition c hc])
  rw [syndrome_changeBit _ hc, syndrome_oneBit d hb]
  have heven : (BitVec.ofNat 8 (128 + codePosition b) ^^^ BitVec.ofNat 8 (128 + codePosition c)).getLsbD 7 = false := by
    rw [BitVec.getLsbD_xor, hbit _ (codePosition_le b hb), hbit _ (codePosition_le c hc), Bool.xor_self]
  have hnonzero : (BitVec.ofNat 8 (128 + codePosition b) ^^^ BitVec.ofNat 8 (128 + codePosition c)).toNat % 128 ≠ 0 := by
    rw [Nat.mod_eq_of_lt ((toNat_lt_128_iff _).mpr heven)]
    intro hzero
    exact hdiffer (BitVec.xor_eq_zero_iff.mp (BitVec.eq_of_toNat_eq hzero))
  rw [classOf_eq, if_pos heven, if_neg hnonzero]

/-- Settles O8: by the linearity of the syndrome, a changed bit gives its codeword position with p, and two changed bits give
two different positions. -/
theorem singleCorrectedDoubleDetected : Obligations.SingleCorrectedDoubleDetected := by
  intro d
  have hclean : classOf (syndrome (encodeWord d)) = .clean := by
    rw [syndrome_encodeWord]
    decide
  refine ⟨⟨hclean, output_of_reportedBit_none (reportedBit_of_not_correctable (by simp [hclean]))⟩,
    fun b hb => ⟨(reportedBit_oneBit d hb).1, (reportedBit_oneBit d hb).2, output_oneBit d hb⟩,
    fun b hb c hc hne => classOf_twoBits d hb hc hne⟩

end Sys2Proof.Machine

/-! ## The target of a scrub step: O26 -/

namespace Sys2Proof.Machine

variable {s : State}

/-! ### The words passed over (R68) -/

/-- A retired word, or the address of a slot that is not in use. -/
def State.outOfService (s : State) (p : Nat) : Prop :=
  p < s.H ∧ (s.mappedSlot p).isSome = true ∨ ∃ k : Fin 64, p = s.H + k.val ∧ s.tu.pool[k] ≠ .inUse

theorem State.passedOver_iff (s : State) {p : Nat} (hp : p < s.W) : s.passedOver p = true ↔ s.outOfService p := by
  obtain hhome | ⟨k, rfl⟩ | hbeyond := s.address_cases p
  · have hkey : s.outOfService p ↔ (s.mappedSlot p).isSome = true := by
      constructor
      · rintro (⟨-, hmapped⟩ | ⟨k, hk, -⟩)
        · exact hmapped
        · omega
      · exact fun hmapped => .inl ⟨hhome, hmapped⟩
    rw [hkey]
    unfold State.passedOver
    cases hmapped : s.mappedSlot p with
    | none => rw [State.kindAt_home hhome hmapped]; simp
    | some k => rw [State.kindAt_retired hhome hmapped]; simp
  · have hkey : s.outOfService (s.slotAddress k) ↔ s.tu.pool[k] ≠ .inUse := by
      constructor
      · rintro (⟨hhome, -⟩ | ⟨j, hj, hidle⟩)
        · rw [State.slotAddress] at hhome
          omega
        · obtain rfl : k = j := Fin.ext (by rw [State.slotAddress] at hj; omega)
          exact hidle
      · exact fun hidle => .inr ⟨k, rfl, hidle⟩
    rw [hkey]
    unfold State.passedOver
    rw [State.kindAt_slotAddress]
    by_cases hinUse : s.tu.pool[k] = .inUse
    · rw [if_pos hinUse]
      exact iff_of_false Bool.false_ne_true (not_not_intro hinUse)
    · rw [if_neg hinUse]
      exact iff_of_true rfl hinUse
  · omega

/-- A number below 128 for each word passed over: its slot's for a retired word, 64 more for an idle slot. -/
def State.passKey (s : State) (p : Nat) : Nat :=
  if p < s.H then (s.mappedSlot p).elim 0 (·.val) else 64 + (p - s.H)

theorem State.passKey_lt {p : Nat} (h : s.outOfService p) : s.passKey p < 128 := by
  obtain ⟨hhome, hmapped⟩ | ⟨k, rfl, -⟩ := h
  · obtain ⟨k, hk⟩ := Option.isSome_iff_exists.mp hmapped
    rw [State.passKey, if_pos hhome, hk, Option.elim_some]
    omega
  · rw [State.passKey, if_neg (by omega)]
    omega

/-- A slot names one word only, so the number tells the words passed over apart. -/
theorem State.passKey_inj {p q : Nat} (hp : s.outOfService p) (hq : s.outOfService q) (h : s.passKey p = s.passKey q) :
    p = q := by
  have hretired {p : Nat} (hhome : p < s.H) (hmapped : (s.mappedSlot p).isSome = true) :
      ∃ k : Fin 64, s.passKey p = k.val ∧ s.mappedSlot p = some k := by
    obtain ⟨k, hk⟩ := Option.isSome_iff_exists.mp hmapped
    exact ⟨k, by rw [State.passKey, if_pos hhome, hk, Option.elim_some], hk⟩
  have hslot (k : Fin 64) : s.passKey (s.H + k.val) = 64 + k.val := by
    rw [State.passKey, if_neg (by omega), Nat.add_sub_cancel_left]
  obtain ⟨hphome, hpmapped⟩ | ⟨j, rfl, -⟩ := hp <;> obtain ⟨hqhome, hqmapped⟩ | ⟨k, rfl, -⟩ := hq
  · obtain ⟨j, hj, hpj⟩ := hretired hphome hpmapped
    obtain ⟨k, hk, hqk⟩ := hretired hqhome hqmapped
    obtain rfl : j = k := Fin.ext (by omega)
    obtain ⟨e, he, rfl⟩ := State.mappedSlot_some hpj
    obtain ⟨f, hf, rfl⟩ := State.mappedSlot_some hqk
    rw [Option.some.inj (he.symm.trans hf)]
  · obtain ⟨j, hj, -⟩ := hretired hphome hpmapped
    have := hslot k
    omega
  · obtain ⟨k, hk, -⟩ := hretired hqhome hqmapped
    have := hslot j
    omega
  · rw [hslot, hslot] at h
    omega

/-- At most 64 words are retired and 64 slots idle: one of 129 words in a row, round the array, is in service. -/
theorem State.exists_inService (s : State) (cursor : Nat) : ∃ n ≤ 128, ¬ s.outOfService ((cursor + n) % s.W) := by
  by_contra! hall
  have hout {j : Nat} (hj : j ∈ Finset.range 129) : s.outOfService ((cursor + j) % s.W) :=
    hall j (by rw [Finset.mem_range] at hj; omega)
  obtain ⟨i, hi, j, hj, hne, hkey⟩ := Finset.exists_ne_map_eq_of_card_lt_of_maps_to
    (s := Finset.range 129) (t := Finset.range 128) (f := fun j => s.passKey ((cursor + j) % s.W)) (by simp)
    (fun j hj => Finset.mem_coe.mpr (Finset.mem_range.mpr (State.passKey_lt (hout hj))))
  have hmod : (cursor + i) % s.W = (cursor + j) % s.W := State.passKey_inj (hout hi) (hout hj) hkey
  have hmod : i % s.W = j % s.W := Nat.ModEq.add_left_cancel' cursor hmod
  have hlarge := s.W_large
  rw [Finset.mem_range] at hi hj
  rw [Nat.mod_eq_of_lt (by omega), Nat.mod_eq_of_lt (by omega)] at hmod
  exact hne hmod

/-! ### The search (R67, R68) -/

/-- The cursor and the pass counter j words further than the cursor, in an array of w words. -/
def wordsOn (w : Nat) (c : Nat × BitVec 16) (j : Nat) : Nat × BitVec 16 :=
  ((c.1 + j) % w, if c.1 + j < w then c.2 else c.2 + 1)

theorem cursorNext_wordsOn {w : Nat} {c : Nat × BitVec 16} {j : Nat} (hc : c.1 < w) (hj : j + 1 < w) :
    cursorNext w (wordsOn w c j) = wordsOn w c (j + 1) := by
  obtain hbefore | hlast | hafter : c.1 + j + 1 < w ∨ c.1 + j + 1 = w ∨ w ≤ c.1 + j := by omega
  · simp only [cursorNext, wordsOn, Nat.mod_eq_of_lt (show c.1 + j < w by omega), ← Nat.add_assoc,
      Nat.mod_eq_of_lt hbefore, if_pos hbefore, if_pos (show c.1 + j < w by omega)]
  · simp only [cursorNext, wordsOn, Nat.mod_eq_of_lt (show c.1 + j < w by omega), ← Nat.add_assoc, hlast, Nat.mod_self,
      if_neg (Nat.lt_irrefl w), if_pos (show c.1 + j < w by omega)]
  · simp only [cursorNext, wordsOn, ← Nat.add_assoc, Nat.mod_eq_sub_mod hafter,
      Nat.mod_eq_sub_mod (show w ≤ c.1 + j + 1 by omega), Nat.mod_eq_of_lt (show c.1 + j - w < w by omega),
      Nat.mod_eq_of_lt (show c.1 + j + 1 - w < w by omega), if_neg (show ¬ c.1 + j < w by omega),
      if_neg (show ¬ c.1 + j + 1 < w by omega), if_pos (show c.1 + j - w + 1 < w by omega), Prod.mk.injEq, and_true]
    omega

/-- The search stops at the first word that is not passed over. -/
theorem State.scrubSearch_eq {c : Nat × BitVec 16} {n m j fuel : Nat} (hc : c.1 < s.W) (hn : n < s.W) (hm : j + m = n)
    (hfuel : m ≤ fuel) (hpassed : ∀ i, j ≤ i → i < n → s.passedOver ((c.1 + i) % s.W) = true)
    (hstop : s.passedOver ((c.1 + n) % s.W) = false) : s.scrubSearch fuel (wordsOn s.W c j) = wordsOn s.W c n := by
  induction m generalizing j fuel with
  | zero =>
    obtain rfl : j = n := hm
    cases fuel with
    | zero => rfl
    | succ fuel => exact if_neg (by simp [wordsOn, hstop])
  | succ m ih =>
    obtain ⟨fuel, rfl⟩ : ∃ f, fuel = f + 1 := ⟨fuel - 1, by omega⟩
    have hstep : s.scrubSearch (fuel + 1) (wordsOn s.W c j) = s.scrubSearch fuel (cursorNext s.W (wordsOn s.W c j)) :=
      if_pos (hpassed j (by omega) (by omega))
    rw [hstep, cursorNext_wordsOn hc (by omega)]
    exact ih (by omega) (by omega) fun i hij hin => hpassed i (by omega) hin

/-- Settles O26: one of the 129 words from the cursor is in service, and the search stops at the first. -/
theorem scrubTargetIsFirstWordInService : Obligations.ScrubTargetIsFirstWordInService := by
  intro s hcursor skipped
  classical
  have hexists := s.exists_inService s.scrub.cursor
  obtain ⟨hle, hinService⟩ := Nat.find_spec hexists
  have hfirst (j : Nat) (hj : j < Nat.find hexists) : s.outOfService ((s.scrub.cursor + j) % s.W) := by
    by_contra hnot
    exact Nat.find_min hexists hj ⟨by omega, hnot⟩
  generalize Nat.find hexists = n at hle hinService hfirst
  have hlt (j : Nat) : (s.scrub.cursor + j) % s.W < s.W := Nat.mod_lt _ s.W_pos
  have hlarge := s.W_large
  have hsearch := State.scrubSearch_eq (c := (s.scrub.cursor, s.scrub.passes)) (j := 0) (m := n) (fuel := 128) hcursor
    (by omega) (Nat.zero_add n) hle (fun i _ hi => (s.passedOver_iff (hlt i)).mpr (hfirst i hi))
    (Bool.eq_false_iff.mpr fun h => hinService ((s.passedOver_iff (hlt n)).mp h))
  have hstart : wordsOn s.W (s.scrub.cursor, s.scrub.passes) 0 = (s.scrub.cursor, s.scrub.passes) := by
    simp [wordsOn, hcursor, Nat.mod_eq_of_lt hcursor]
  have htarget : s.scrubTarget = wordsOn s.W (s.scrub.cursor, s.scrub.passes) n := by
    rw [← hsearch, hstart, State.scrubTarget]
  exact ⟨n, hle, htarget, by rw [htarget]; exact hinService, hfirst⟩

end Sys2Proof.Machine

/-! ## The words of the windows, bit for bit: O48 -/

namespace Sys2Proof.Machine

variable {s : State}

/-! ### Fields placed in a management word -/

/-- The management word with v in the bits from bit low on, and 0 in the others. -/
def placed {n : Nat} (low : Nat) (v : BitVec n) : MgmtWord := v.setWidth 32 <<< low

theorem placed_zero (v : MgmtWord) : placed 0 v = v := by
  rw [placed, BitVec.shiftLeft_zero, BitVec.setWidth_eq]

theorem placed_empty (n low : Nat) : placed low (0#n) = 0#32 := by
  rw [placed, BitVec.setWidth_zero, BitVec.zero_shiftLeft]

/-- Two fields appended are the two placed one above the other. -/
theorem placed_append {n m : Nat} (low : Nat) (u : BitVec n) (v : BitVec m) :
    placed low (u ++ v) = placed (low + m) u ||| placed low v := by
  refine BitVec.eq_of_getLsbD_eq fun i hi => ?_
  simp only [placed, BitVec.getLsbD_or, BitVec.getLsbD_shiftLeft, BitVec.getLsbD_setWidth, BitVec.getLsbD_append, hi]
  by_cases hlow : i < low
  · simp [hlow, show i < low + m by omega]
  · by_cases hv : i - low < m
    · simp [hlow, hv, show i < low + m by omega]
    · have hv' : v.getLsbD (i - low) = false := BitVec.getLsbD_of_ge v _ (by omega)
      simp [hlow, hv, hv', show ¬ i < low + m by omega, Nat.sub_sub, show i - low < 32 by omega,
        show i - (low + m) < 32 by omega]

theorem field_eq (n low value : Nat) : field n low value = placed low (BitVec.ofNat n value) := rfl

theorem bit_eq (low : Nat) (b : Bool) : bit low b = placed low (BitVec.ofBool b) := by
  cases b <;> rfl

theorem ofBool_true_eq : BitVec.ofBool true = 1#1 := rfl

theorem setWidth_eq_placed {n : Nat} (v : BitVec n) : v.setWidth 32 = placed 0 v := by
  rw [placed, BitVec.shiftLeft_zero]

theorem placed_shiftLeft {n : Nat} (low further : Nat) (v : BitVec n) : placed low v <<< further = placed (low + further) v := by
  rw [placed, placed, BitVec.shiftLeft_add]

/-- A word is its fields when they are so placed. -/
theorem eq_of_placed {w v : MgmtWord} (h : w = placed 0 v) : w = v := h.trans (placed_zero v)

/-! ### CONFIG and STATUS (R175, R177, R185) -/

theorem State.configWord_bits (s : State) :
    s.windowWord .config 0 = 0#28 ++ BitVec.ofNat 4 s.config.ceThreshold ∧
    s.windowWord .config 1 = 0#16 ++ BitVec.ofNat 16 s.config.scrubInterval ∧
    s.windowWord .config 2 = 0#31 ++ BitVec.ofBool s.config.readWriteback ∧
    s.windowWord .config 3 = 0#24 ++ s.config.alertMask ∧
    s.windowWord .config 4 = 0#24 ++ BitVec.ofNat 8 s.config.timebaseDiv ∧
    s.windowWord .config 5 = 0#28 ++ BitVec.ofNat 4 s.config.migrationFairness := by
  refine ⟨?_, ?_, ?_, ?_, ?_, ?_⟩
  all_goals
    refine eq_of_placed ?_
    rw [placed_append, placed_empty, BitVec.zero_or]
    simp only [State.windowWord, State.configWord, field_eq, bit_eq, setWidth_eq_placed]

theorem State.statusWord_lifecycle (s : State) {drain : BitVec 1} {state : BitVec 2}
    (hdrain : BitVec.ofBool s.lifecycle.drainBit = drain) (hstate : BitVec.ofNat 2 s.lifecycle.code = state) :
    s.windowWord .status 0 =
      0#17 ++ BitVec.ofNat 7 ((List.finRange 64).filter fun k => s.tu.pool[k] = .free).length ++
      BitVec.ofNat 4 s.queue.length ++ 0#1 ++ drain ++ state := by
  subst hdrain hstate
  refine eq_of_placed ?_
  repeat rw [placed_append]
  simp only [State.windowWord, State.statusWord, field_eq, bit_eq, placed_empty, Nat.reduceAdd, BitVec.zero_or,
    BitVec.or_zero]
  ac_rfl

theorem State.statusWord_counts (s : State) :
    s.windowWord .status 1 = 0#7 ++ BitVec.ofNat 25 s.fillCursor ∧
    s.windowWord .status 2 = 0#5 ++ BitVec.ofNat 3 s.scrub.credit ++ BitVec.ofNat 24 s.scrub.cursor ∧
    s.windowWord .status 3 = 0#11 ++ BitVec.ofNat 5 s.log.records.length ++ s.scrub.passes ∧
    s.windowWord .status 4 = 0#17 ++ s.log.flags ++ BitVec.ofNat 8 s.log.dropped ∧
    s.windowWord .status 9 = 0#7 ++ BitVec.ofNat 25 s.W ∧ s.windowWord .status 10 = 0#8 ++ BitVec.ofNat 24 s.H := by
  refine ⟨?_, ?_, ?_, ?_, ?_, ?_⟩
  all_goals
    refine eq_of_placed ?_
    repeat rw [placed_append]
    simp only [State.windowWord, State.statusWord, field_eq, setWidth_eq_placed, placed_shiftLeft, placed_empty,
      Nat.reduceAdd, BitVec.zero_or, BitVec.or_comm]

theorem State.statusWord_firstUE {u : FirstUE} {kind : BitVec 4} (hlatch : s.log.firstUE = some u)
    (hkind : BitVec.ofNat 4 u.finder.ueCode = kind) :
    s.windowWord .status 6 =
      1#1 ++ BitVec.ofBool u.owner.isSome ++ 0#2 ++ kind ++ BitVec.ofNat 24 u.physical ∧
    ∀ l, u.owner = some l → s.windowWord .status 7 = 0#8 ++ BitVec.ofNat 24 l := by
  subst hkind
  refine ⟨?_, fun l howner => ?_⟩
  all_goals
    refine eq_of_placed ?_
    repeat rw [placed_append]
  · simp only [State.windowWord, State.statusWord, hlatch, field_eq, bit_eq, placed_empty, Nat.reduceAdd, BitVec.or_zero,
      ofBool_true_eq]
  · simp only [State.windowWord, State.statusWord, hlatch, howner, Option.getD_some, field_eq, placed_empty, BitVec.zero_or]

theorem State.statusWord_command (s : State) {result : BitVec 4}
    (hresult : BitVec.ofNat 4 s.mgmt.lastResult.code = result) :
    s.windowWord .status 8 =
      BitVec.ofBool s.mgmt.busy ++ BitVec.ofBool s.mgmt.lost ++ BitVec.ofBool s.mgmt.accessError ++ 0#17 ++ result ++
      s.mgmt.lastCode := by
  subst hresult
  refine eq_of_placed ?_
  repeat rw [placed_append]
  simp only [State.windowWord, State.statusWord, field_eq, bit_eq, setWidth_eq_placed, placed_empty, Nat.reduceAdd,
    BitVec.or_zero]

/-! ### MIGRATION, REPAIR, SLOTS, WATCH, RETQ and DIAG (R33, R92, R116, R176, R185) -/

theorem State.migrationWord_active {c : MigrationContext} {phase : BitVec 2} {origin : BitVec 1}
    (hactive : s.migration = some c) (hphase : BitVec.ofNat 2 c.phase.code = phase)
    (horigin : BitVec.ofNat 1 c.origin.code = origin) :
    s.windowWord .migration 0 =
      1#1 ++ phase ++ BitVec.ofBool c.dirty ++ BitVec.ofBool c.pinned ++ origin ++ BitVec.ofNat 2 c.restarts ++
      BitVec.ofNat 24 c.logical ∧
    s.windowWord .migration 1 = 0#8 ++ BitVec.ofNat 24 c.source ∧
    s.windowWord .migration 2 = 0#26 ++ BitVec.ofNat 6 c.target.val := by
  subst hphase horigin
  refine ⟨?_, ?_, ?_⟩
  all_goals
    refine eq_of_placed ?_
    repeat rw [placed_append]
    simp only [State.windowWord, State.migrationWord, hactive, field_eq, bit_eq, placed_empty, Nat.reduceAdd,
      BitVec.zero_or, ofBool_true_eq]

theorem State.repairWord_none {k : Fin 64} (hentry : s.tu.table[k] = none) :
    s.windowWord .repair (2 * k.val) = 0 ∧ s.windowWord .repair (2 * k.val + 1) = 0 := by
  have heven : 2 * k.val / 2 = k.val := by omega
  have hodd : (2 * k.val + 1) / 2 = k.val := by omega
  have hentry : s.tu.table[k.val] = none := hentry
  constructor
  · simp only [State.windowWord, State.repairWord, heven, hentry, dif_pos k.isLt]
  · simp only [State.windowWord, State.repairWord, hodd, hentry, dif_pos k.isLt]

theorem State.repairWord_some {k : Fin 64} {e : RepairEntry} {origin : BitVec 1} (hentry : s.tu.table[k] = some e)
    (horigin : BitVec.ofNat 1 e.origin.code = origin) :
    s.windowWord .repair (2 * k.val) =
      1#1 ++ origin ++ 0#2 ++ BitVec.ofNat 4 e.moves ++ BitVec.ofNat 24 e.logical ∧
    s.windowWord .repair (2 * k.val + 1) = 1#1 ++ 0#7 ++ BitVec.ofNat 24 (s.H + k.val) := by
  subst horigin
  have heven : 2 * k.val / 2 = k.val := by omega
  have hodd : (2 * k.val + 1) / 2 = k.val := by omega
  have hentry : s.tu.table[k.val] = some e := hentry
  constructor
  all_goals
    refine eq_of_placed ?_
    repeat rw [placed_append]
  · simp only [State.windowWord, State.repairWord, heven, hentry, dif_pos k.isLt, Nat.mul_mod_right, if_true, field_eq,
      bit_eq, placed_empty, Nat.reduceAdd, BitVec.or_zero, ofBool_true_eq]
  · simp only [State.windowWord, State.repairWord, hodd, hentry, dif_pos k.isLt, Nat.mul_add_mod, Nat.one_mod,
      one_ne_zero, if_false, State.slotAddress, field_eq, bit_eq, placed_empty, Nat.reduceAdd, BitVec.or_zero,
      ofBool_true_eq]

theorem State.slotsWord_bits (k : Fin 64) {st : BitVec 2} (hst : BitVec.ofNat 2 (s.tu.pool[k]).code = st) :
    s.windowWord .slots k.val = 0#30 ++ st := by
  subst hst
  refine eq_of_placed ?_
  rw [placed_append, placed_empty, BitVec.zero_or]
  simp only [State.windowWord, State.slotsWord, dif_pos k.isLt, field_eq]
  rfl

theorem State.watchWord_none {i : Nat} (hentry : s.watch[i]? = none) :
    s.windowWord .watch (2 * i) = 0 ∧ s.windowWord .watch (2 * i + 1) = 0 := by
  have heven : 2 * i / 2 = i := by omega
  have hodd : (2 * i + 1) / 2 = i := by omega
  constructor
  · simp only [State.windowWord, State.watchWord, heven, hentry]
  · simp only [State.windowWord, State.watchWord, hodd, hentry]

theorem State.watchWord_some {i : Nat} {e : WatchEntry} {st : BitVec 3} (hentry : s.watch[i]? = some e)
    (hst : BitVec.ofNat 3 e.state.code = st) :
    s.windowWord .watch (2 * i) = 1#1 ++ st ++ BitVec.ofNat 4 e.count ++ BitVec.ofNat 24 e.physical ∧
    ∀ l, s.owner e.physical = some l → s.windowWord .watch (2 * i + 1) = 1#1 ++ 0#7 ++ BitVec.ofNat 24 l := by
  subst hst
  have heven : 2 * i / 2 = i := by omega
  have hodd : (2 * i + 1) / 2 = i := by omega
  refine ⟨?_, fun l howner => ?_⟩
  all_goals
    refine eq_of_placed ?_
    repeat rw [placed_append]
  · simp only [State.windowWord, State.watchWord, heven, hentry, Nat.mul_mod_right, if_true, field_eq, bit_eq,
      Nat.reduceAdd, ofBool_true_eq]
  · simp only [State.windowWord, State.watchWord, hodd, hentry, Nat.mul_add_mod, Nat.one_mod, one_ne_zero, if_false,
      howner, Option.getD_some, field_eq, bit_eq, placed_empty, Nat.reduceAdd, BitVec.or_zero, ofBool_true_eq]

theorem State.retqWord_none {i : Nat} (hentry : s.retq[i]? = none) : s.windowWord .retq i = 0 := by
  simp only [State.windowWord, State.retqWord, hentry]

theorem State.retqWord_some {i : Nat} {r : RetireRequest} {origin : BitVec 1} (hentry : s.retq[i]? = some r)
    (horigin : BitVec.ofNat 1 r.origin.code = origin) :
    s.windowWord .retq i = 1#1 ++ origin ++ 0#6 ++ BitVec.ofNat 24 r.logical := by
  subst horigin
  refine eq_of_placed ?_
  repeat rw [placed_append]
  simp only [State.windowWord, State.retqWord, hentry, field_eq, bit_eq, placed_empty, Nat.reduceAdd, BitVec.or_zero,
    ofBool_true_eq]

theorem State.diagWord_check (s : State) : s.windowWord .diag 2 = 0#24 ++ s.mgmt.diag.check := by
  refine eq_of_placed ?_
  rw [placed_append, placed_empty, BitVec.zero_or]
  exact setWidth_eq_placed s.mgmt.diag.check

theorem State.diagWord_found (s : State) {found : BitVec 2} (hfound : BitVec.ofNat 2 s.mgmt.diag.found.code = found) :
    s.windowWord .diag 3 = 0#22 ++ found ++ s.mgmt.diag.syndrome := by
  subst hfound
  refine eq_of_placed ?_
  repeat rw [placed_append]
  simp only [State.windowWord, State.diagWord, field_eq, setWidth_eq_placed, placed_empty, Nat.reduceAdd, BitVec.zero_or]

/-! ### LOG (R135, R186) -/

theorem State.logWord_empty (hrecords : s.log.records = []) (i : Nat) : s.windowWord .log i = 0 := by
  simp only [State.windowWord, State.logWord, hrecords]

/-- The head record's words, from what its kind gives. -/
theorem State.logWord_head {r : LogRecord} {rest : List LogRecord} {severe : Bool} {kind : BitVec 4}
    {logical : Option Nat} {word2 : MgmtWord} {top3 : BitVec 8} (hrecords : s.log.records = r :: rest)
    (hsevere : r.offer.severe = severe) (hkind : BitVec.ofNat 4 r.offer.kindCode = kind) (hlogical : r.logical = logical)
    (hword2 : r.offer.word2 = word2) (htop3 : r.offer.word3 = placed 24 top3) :
    s.windowWord .log 0 =
      1#1 ++ BitVec.ofBool severe ++ BitVec.ofBool logical.isSome ++ 0#1 ++ kind ++ BitVec.ofNat 8 r.repeats ++ r.seqNo ∧
    s.windowWord .log 1 = r.time ∧ s.windowWord .log 2 = word2 ∧
    s.windowWord .log 3 = top3 ++ BitVec.ofNat 24 (logical.getD 0) := by
  subst hsevere hkind hlogical hword2
  have hword (i : Nat) : s.windowWord .log i = r.word i := by simp only [State.windowWord, State.logWord, hrecords]
  refine ⟨?_, hword 1, hword 2, ?_⟩
  all_goals
    refine (hword _).trans (eq_of_placed ?_)
    repeat rw [placed_append]
  · simp only [LogRecord.word, field_eq, bit_eq, setWidth_eq_placed, placed_empty, Nat.reduceAdd, BitVec.or_zero,
      ofBool_true_eq]
  · simp only [LogRecord.word, htop3, field_eq, Nat.reduceAdd]

theorem Offer.word2_address (syn : BitVec 8) (p : Nat) :
    field 8 24 syn.toNat ||| field 24 0 p = syn ++ BitVec.ofNat 24 p := by
  refine eq_of_placed ?_
  rw [placed_append, field_eq, field_eq, BitVec.ofNat_toNat, BitVec.setWidth_eq]

theorem Offer.word2_slot (k : Fin 64) {code : Nat} {shown : BitVec 2} (hcode : BitVec.ofNat 2 code = shown) :
    field 2 8 code ||| field 6 0 k.val = 0#22 ++ shown ++ 0#2 ++ BitVec.ofNat 6 k.val := by
  subst hcode
  refine eq_of_placed ?_
  repeat rw [placed_append]
  simp only [field_eq, placed_empty, Nat.reduceAdd, BitVec.zero_or, BitVec.or_zero]

theorem Offer.word2_moved (k : Fin 64) (old : Nat) :
    field 6 24 k.val ||| field 24 0 old = 0#2 ++ BitVec.ofNat 6 k.val ++ BitVec.ofNat 24 old := by
  refine eq_of_placed ?_
  repeat rw [placed_append]
  simp only [field_eq, placed_empty, Nat.reduceAdd, BitVec.zero_or]

theorem Offer.word2_tag (tag : BitVec 4) {code : Nat} {shown : BitVec 2} (hcode : BitVec.ofNat 2 code = shown) :
    field 2 8 code ||| field 4 0 tag.toNat = 0#22 ++ shown ++ 0#4 ++ tag := by
  subst hcode
  refine eq_of_placed ?_
  repeat rw [placed_append]
  simp only [field_eq, placed_empty, Nat.reduceAdd, BitVec.zero_or, BitVec.or_zero, BitVec.ofNat_toNat,
    BitVec.setWidth_eq]

theorem Offer.word3_bit (b : Nat) : field 7 24 b = placed 24 (0#1 ++ BitVec.ofNat 7 b) := by
  rw [placed_append, placed_empty, BitVec.zero_or, field_eq]

theorem placed_nothing : (0 : MgmtWord) = placed 24 (0 : BitVec 8) := rfl

/-- Settles O48: window by window, each word as its fields placed one above the other. -/
theorem windowWordsHoldTheirFields : Obligations.WindowWordsHoldTheirFields := by
  intro s
  obtain ⟨hfill, hscrub, hpasses, hflags, hW, hH⟩ := s.statusWord_counts
  refine ⟨s.configWord_bits, ⟨?lifecycle, hfill, hscrub, hpasses, hflags, rfl, ?noUE, ?firstUE, ?command, hW, hH⟩,
    ⟨?noMigration, ?migration⟩, fun k => ⟨State.repairWord_none, ?repair, ?slots⟩,
    fun i => ⟨State.watchWord_none, ?watch, State.retqWord_none, ?retq⟩, ⟨State.logWord_empty, ?log⟩,
    ⟨rfl, rfl, s.diagWord_check, ?diag⟩, fun _ => rfl⟩
  case lifecycle =>
    refine s.statusWord_lifecycle ?_ ?_
    · obtain _ | _ | _ | target := s.lifecycle
      case draining => cases target <;> rfl
      all_goals rfl
    · cases s.lifecycle <;> rfl
  case noUE =>
    intro hlatch
    constructor <;> simp only [State.windowWord, State.statusWord, hlatch]
  case firstUE =>
    intro u hlatch
    exact State.statusWord_firstUE hlatch (by cases u.finder <;> rfl)
  case command => exact s.statusWord_command (by cases s.mgmt.lastResult <;> rfl)
  case noMigration =>
    intro hnone i
    simp only [State.windowWord, State.migrationWord, hnone]
  case migration =>
    intro c hactive
    exact State.migrationWord_active hactive (by cases c.phase <;> rfl) (by cases c.origin <;> rfl)
  case repair =>
    intro e hentry
    exact State.repairWord_some hentry (by cases e.origin <;> rfl)
  case slots => exact State.slotsWord_bits k (by cases s.tu.pool[k] <;> rfl)
  case watch =>
    intro e hentry
    exact State.watchWord_some hentry (by cases e.state <;> rfl)
  case retq =>
    intro r hentry
    exact State.retqWord_some hentry (by cases r.origin <;> rfl)
  case diag =>
    refine s.diagWord_found ?_
    obtain _ | _ | form := s.mgmt.diag.found
    case uncorrectable => cases form <;> rfl
    all_goals rfl
  case log =>
    intro r rest hrecords foundBy classOf shows
    obtain ⟨seqNo, time, repeats, offer, owner⟩ := r
    cases offer with
    | ce f p b syn =>
      exact State.logWord_head hrecords rfl (by cases f <;> rfl) rfl (Offer.word2_address syn p) (Offer.word3_bit b)
    | ue f p syn =>
      exact State.logWord_head hrecords rfl (by cases f <;> rfl) rfl (Offer.word2_address syn p) placed_nothing
    | spareFail k l c =>
      refine State.logWord_head hrecords rfl rfl rfl (Offer.word2_slot k ?_) placed_nothing
      obtain _ | _ | form := c
      case uncorrectable => cases form <;> rfl
      all_goals rfl
    | migrationDone l old k =>
      exact State.logWord_head hrecords rfl rfl rfl (Offer.word2_moved k old) placed_nothing
    | migrationAbandoned l cause k =>
      exact State.logWord_head hrecords rfl rfl rfl (Offer.word2_slot k (by cases cause <;> rfl)) placed_nothing
    | slotsExhausted l => exact State.logWord_head hrecords rfl rfl rfl rfl placed_nothing
    | scrubOverrun => exact State.logWord_head hrecords rfl rfl rfl rfl placed_nothing
    | hostRefused a why tag =>
      exact State.logWord_head hrecords rfl rfl rfl (Offer.word2_tag tag (by cases why <;> rfl)) placed_nothing

end Sys2Proof.Machine

/-! ## One watched entry: its count, its threshold test and its offer, and O28 -/

namespace Sys2Proof.Machine

variable {s : State}

/-! ### An entry in its place in the list -/

/-- An address is watched once: a change at that address is a change of the one entry. -/
theorem map_watched {a b : List WatchEntry} {e : WatchEntry} (hothers : ∀ x ∈ a ++ b, x.physical ≠ e.physical)
    (f : WatchEntry → WatchEntry) :
    (a ++ e :: b).map (fun x => if x.physical = e.physical then f x else x) = a ++ f e :: b := by
  have hkept {l : List WatchEntry} (hl : ∀ x ∈ l, x.physical ≠ e.physical) :
      l.map (fun x => if x.physical = e.physical then f x else x) = l :=
    (List.map_congr_left fun x hx => if_neg (hl x hx)).trans (List.map_id' l)
  obtain ⟨ha, hb⟩ := List.forall_mem_append.mp hothers
  rw [List.map_append, List.map_cons, hkept ha, hkept hb, if_pos rfl]

/-- The entries around one of distinct addresses have others. -/
theorem others_of_nodup {a b : List WatchEntry} {e : WatchEntry} (hnodup : ((a ++ e :: b).map (·.physical)).Nodup) :
    ∀ x ∈ a ++ b, x.physical ≠ e.physical := by
  rw [List.map_append, List.map_cons, List.nodup_middle, List.nodup_cons, ← List.map_append] at hnodup
  exact fun x hx hp => hnodup.1 (hp ▸ List.mem_map_of_mem hx)

theorem State.WatchSound.others {a b : List WatchEntry} {e : WatchEntry} (hsound : s.WatchSound)
    (hwatch : s.watch = a ++ e :: b) : ∀ x ∈ a ++ b, x.physical ≠ e.physical := by
  obtain ⟨-, hnodup, -⟩ := hsound
  exact others_of_nodup (hwatch ▸ hnodup)

theorem State.watchEntry_split {a b : List WatchEntry} {e : WatchEntry} (hwatch : s.watch = a ++ e :: b)
    (hothers : ∀ x ∈ a ++ b, x.physical ≠ e.physical) : s.watchEntry e.physical = some e := by
  obtain ⟨ha, -⟩ := List.forall_mem_append.mp hothers
  rw [State.watchEntry, hwatch, List.find?_append, List.find?_eq_none.mpr (by simpa using ha)]
  simp

theorem State.setWatch_split {a b : List WatchEntry} {e : WatchEntry} (hwatch : s.watch = a ++ e :: b)
    (hothers : ∀ x ∈ a ++ b, x.physical ≠ e.physical) (st : WatchState) :
    s.setWatch e.physical st = { s with watch := a ++ { e with state := st } :: b } := by
  rw [State.setWatch, hwatch, map_watched hothers]

/-! ### The offer of a DUE entry, and the threshold test (R82, R84) -/

/-- What becomes of a DUE entry for p that is offered, and of the queue; without an owner it stays DUE (log 21). -/
def State.dueResult (s : State) (p : Nat) : WatchState × List RetireRequest :=
  (s.owner p).elim (.due, s.retq) (offerResult s)

theorem State.dueResult_owner {p l : Nat} (howner : s.owner p = some l) : s.dueResult p = offerResult s l := by
  rw [State.dueResult, howner, Option.elim_some]

theorem State.offerDue_split {a b : List WatchEntry} {e : WatchEntry} (hwatch : s.watch = a ++ e :: b)
    (hothers : ∀ x ∈ a ++ b, x.physical ≠ e.physical) (hdue : e.state = .due) :
    s.offerDue e.physical =
      { s with
        watch := a ++ { e with state := (s.dueResult e.physical).1 } :: b, retq := (s.dueResult e.physical).2 } := by
  have hstays : s = { s with watch := a ++ { e with state := .due } :: b, retq := s.retq } := by
    rw [← hdue, ← hwatch]
  unfold State.offerDue State.dueResult
  cases howner : s.owner e.physical with
  | none => exact hstays
  | some l =>
    simp only [Option.elim_some, offerResult, State.setWatch_split hwatch hothers]
    split_ifs
    · rfl
    · rfl
    · rfl
    · next hspace hfull => exact absurd hspace hfull
    · next hfull hspace => exact absurd hspace hfull
    · exact hstays

theorem State.passesThreshold_iff (s : State) (n : Nat) :
    s.passesThreshold n = true ↔ s.config.ceThreshold ≠ 0 ∧ s.config.ceThreshold ≤ n := by
  simp [State.passesThreshold]

theorem State.testThreshold_pass {a b : List WatchEntry} {e : WatchEntry} (hwatch : s.watch = a ++ e :: b)
    (hothers : ∀ x ∈ a ++ b, x.physical ≠ e.physical) (hcounting : e.state = .counting)
    (hpasses : s.config.ceThreshold ≠ 0 ∧ s.config.ceThreshold ≤ e.count) :
    s.testThreshold e.physical =
      { s with
        watch := a ++ { e with state := (s.dueResult e.physical).1 } :: b, retq := (s.dueResult e.physical).2 } := by
  unfold State.testThreshold
  rw [State.watchEntry_split hwatch hothers]
  dsimp only
  rw [if_pos (by simp [hcounting, (s.passesThreshold_iff e.count).mpr hpasses]), State.setWatch_split hwatch hothers]
  exact State.offerDue_split (s := { s with watch := a ++ { e with state := .due } :: b })
    (e := { e with state := .due }) rfl hothers rfl

theorem State.testThreshold_stays {a b : List WatchEntry} {e : WatchEntry} (hwatch : s.watch = a ++ e :: b)
    (hothers : ∀ x ∈ a ++ b, x.physical ≠ e.physical)
    (hstays : ¬ (e.state = .counting ∧ s.config.ceThreshold ≠ 0 ∧ s.config.ceThreshold ≤ e.count)) :
    s.testThreshold e.physical = s := by
  unfold State.testThreshold
  rw [State.watchEntry_split hwatch hothers]
  dsimp only
  rw [if_neg (by rw [← s.passesThreshold_iff e.count] at hstays; simpa using hstays)]

/-! ### Eviction (R81) -/

theorem evictBetter_of_not_counting {best : Option WatchEntry} {e : WatchEntry} (h : e.state ≠ .counting) :
    evictBetter best e = best := if_pos h

theorem foldl_evictBetter_of_not_counting {entries : List WatchEntry} (h : ∀ e ∈ entries, e.state ≠ .counting)
    (best : Option WatchEntry) : entries.foldl evictBetter best = best := by
  induction entries with
  | nil => rfl
  | cons e entries ih =>
    obtain ⟨he, hentries⟩ := List.forall_mem_cons.mp h
    rw [List.foldl_cons, evictBetter_of_not_counting he, ih hentries]

theorem evictee_none {entries : List WatchEntry} (h : ∀ e ∈ entries, e.state ≠ .counting) : evictee entries = none :=
  foldl_evictBetter_of_not_counting h none

/-- A choice stands against younger entries of no lower count. -/
theorem foldl_evictBetter_younger {v : WatchEntry} {entries : List WatchEntry}
    (h : ∀ x ∈ entries, x.state = .counting → v.count ≤ x.count) : entries.foldl evictBetter (some v) = some v := by
  induction entries with
  | nil => rfl
  | cons e entries ih =>
    obtain ⟨he, hentries⟩ := List.forall_mem_cons.mp h
    have hkeep : evictBetter (some v) e = some v := by
      by_cases hcounting : e.state = .counting
      · simp [evictBetter, hcounting, he hcounting]
      · exact evictBetter_of_not_counting hcounting
    rw [List.foldl_cons, hkeep, ih hentries]

/-- A choice gives way to a younger entry of a lower count. -/
theorem evictBetter_lower {best : Option WatchEntry} {v : WatchEntry} (hv : v.state = .counting)
    (hbest : ∀ x ∈ best, v.count < x.count) : evictBetter best v = some v := by
  cases best with
  | none => simp [evictBetter, hv]
  | some x => simp [evictBetter, hv, hbest x rfl]

/-- The choice among entries is one that counts. -/
theorem foldl_evictBetter_counting {entries : List WatchEntry} {best : Option WatchEntry}
    (hbest : ∀ x ∈ best, x.state = .counting) : ∀ x ∈ entries.foldl evictBetter best, x.state = .counting := by
  induction entries generalizing best with
  | nil => exact hbest
  | cons e entries ih =>
    refine ih ?_
    by_cases hcounting : e.state = .counting
    · obtain h | h := evictBetter_cases best e
      · rwa [h]
      · rw [h]
        exact fun x hx => Option.mem_some.mp hx ▸ hcounting
    · rwa [evictBetter_of_not_counting hcounting]

theorem evictee_eq {a b : List WatchEntry} {v : WatchEntry} (hv : v.state = .counting)
    (ha : ∀ x ∈ a, x.state = .counting → v.count < x.count) (hb : ∀ x ∈ b, x.state = .counting → v.count ≤ x.count) :
    evictee (a ++ v :: b) = some v := by
  rw [evictee_eq_foldl, List.foldl_append, List.foldl_cons, evictBetter_lower hv, foldl_evictBetter_younger hb]
  intro x hx
  refine ha x ?_ (foldl_evictBetter_counting (best := none) (fun _ h => absurd h (Option.not_mem_none _)) x hx)
  obtain hnone | ⟨w, hw, hsome⟩ := foldl_evictBetter_mem a none
  · rw [hnone] at hx
    exact absurd hx nofun
  · rw [hsome] at hx
    exact Option.mem_some.mp hx ▸ hw

/-! ### The take of a report (R77, R80, R81) -/

/-- The oldest outstanding report of a source is the one taken. -/
theorem exec_ceReport {src : ReportSource} {before after : List CEReport} {r : CEReport} (hhigh : s.pins.resetLow = false)
    (hreports : s.reports = before ++ r :: after) (hsrc : r.src = src) (hbefore : ∀ x ∈ before, x.src ≠ src) :
    exec (.ceReport src) s =
      .next (({ s with reports := before ++ after } : State).takeReport r.physical) := by
  have hfind : s.reports.find? (·.src = src) = some r := by
    rw [hreports, List.find?_append, List.find?_eq_none.mpr (by simpa using hbefore)]
    simp [hsrc]
  have herase : s.reports.eraseP (·.src = src) = before ++ after := by
    rw [hreports, List.eraseP_append_right _ (by simpa using hbefore), List.eraseP_cons_of_pos (by simp [hsrc])]
  simp only [exec, execCeReport, hfind, herase]
  exact congrArg _ (if_neg (by simp [hhigh]))

theorem State.takeReport_unowned {p : Nat} (howner : s.owner p = none) : s.takeReport p = s := by
  unfold State.takeReport
  rw [howner]

theorem State.takeReport_watched {a b : List WatchEntry} {e : WatchEntry} {l : Nat} (howner : s.owner e.physical = some l)
    (hwatch : s.watch = a ++ e :: b) (hothers : ∀ x ∈ a ++ b, x.physical ≠ e.physical) :
    s.takeReport e.physical =
      State.testThreshold { s with watch := a ++ { e with count := min (e.count + 1) 15 } :: b } e.physical := by
  unfold State.takeReport
  rw [howner]
  dsimp only
  rw [State.watchEntry_split hwatch hothers]
  dsimp only
  unfold State.countWatch
  rw [hwatch, map_watched hothers]
  rfl

theorem State.watchEntry_none {p : Nat} (hnew : ∀ e ∈ s.watch, e.physical ≠ p) : s.watchEntry p = none :=
  List.find?_eq_none.mpr (by simpa using hnew)

theorem State.takeReport_notWatched {p l : Nat} (howner : s.owner p = some l) (hnew : ∀ e ∈ s.watch, e.physical ≠ p) :
    s.takeReport p = s.insertWatch p := by
  unfold State.takeReport
  rw [howner]
  dsimp only
  rw [State.watchEntry_none hnew]

/-- The entries that an insertion keeps: all while there is space, else all but the one evicted. -/
def Kept (watch kept : List WatchEntry) : Prop :=
  watch.length < 8 ∧ kept = watch ∨
    8 ≤ watch.length ∧ ∃ a v b, watch = a ++ v :: b ∧ kept = a ++ b ∧ v.state = .counting ∧
      (∀ x ∈ a, x.state = .counting → v.count < x.count) ∧ ∀ x ∈ b, x.state = .counting → v.count ≤ x.count

theorem State.takeReport_new {p l : Nat} {kept : List WatchEntry} (hsound : s.WatchSound) (howner : s.owner p = some l)
    (hnew : ∀ e ∈ s.watch, e.physical ≠ p) (hkept : Kept s.watch kept) :
    s.takeReport p = State.testThreshold { s with watch := kept ++ [⟨p, 1, .counting⟩] } p := by
  rw [State.takeReport_notWatched howner hnew]
  unfold State.insertWatch
  obtain ⟨hspace, rfl⟩ | ⟨hfull, a, v, b, hwatch, rfl, hv, ha, hb⟩ := hkept
  · exact if_pos hspace
  · have hevictee : evictee s.watch = some v := by rw [hwatch, evictee_eq hv ha hb]
    have hrest : s.watch.filter (·.physical ≠ v.physical) = a ++ b := by
      have hothers := hsound.others hwatch
      obtain ⟨ha, hb⟩ := List.forall_mem_append.mp hothers
      rw [hwatch, List.filter_append, List.filter_cons_of_neg (by simp), List.filter_eq_self.mpr (by simpa using ha),
        List.filter_eq_self.mpr (by simpa using hb)]
    rw [if_neg (show ¬ s.watch.length < Config.watchEntries from Nat.not_lt.mpr hfull), hevictee]
    dsimp only
    rw [hrest]

theorem State.takeReport_full {p l : Nat} (howner : s.owner p = some l) (hnew : ∀ e ∈ s.watch, e.physical ≠ p)
    (hfull : 8 ≤ s.watch.length) (hnone : ∀ e ∈ s.watch, e.state ≠ .counting) : s.takeReport p = s := by
  rw [State.takeReport_notWatched howner hnew]
  unfold State.insertWatch
  rw [if_neg (show ¬ s.watch.length < Config.watchEntries from Nat.not_lt.mpr hfull), evictee_none hnone]

theorem Kept.not_watched {watch kept : List WatchEntry} {p : Nat} (hkept : Kept watch kept)
    (hnew : ∀ e ∈ watch, e.physical ≠ p) : ∀ e ∈ kept, e.physical ≠ p := by
  obtain ⟨-, rfl⟩ | ⟨-, a, v, b, rfl, rfl, -⟩ := hkept
  · exact hnew
  · exact fun e he => hnew e (by
      obtain he | he := List.mem_append.mp he
      · exact List.mem_append_left _ he
      · exact List.mem_append_right _ (List.mem_cons_of_mem v he))

/-- Settles O28: the report taken, then the test of the one entry it counted or inserted. -/
theorem reportIsCountedOrInserted : Obligations.ReportIsCountedOrInserted := by
  intro s src before after r hhigh hsound hreports hsrc hbefore s' passes
  rw [exec_ceReport hhigh hreports hsrc hbefore]
  refine ⟨fun hnone => ?unowned, fun l a b e howner hwatch hp => ?watched, fun l kept howner hnew hkept => ?new,
    fun howner hnew hfull hcounting => ?full⟩
  case unowned => exact congrArg _ (State.takeReport_unowned (s := s') hnone)
  case watched =>
    have hothers := hsound.others hwatch
    rw [← hp] at howner ⊢
    have hcounted := State.takeReport_watched (s := s') howner hwatch hothers
    have hresult : State.dueResult { s' with watch := a ++ { e with count := min (e.count + 1) 15 } :: b } e.physical =
        offerResult s l := State.dueResult_owner howner
    refine ⟨fun hstays => congrArg _ (hcounted.trans ?_), fun hstate hpasses => congrArg _ (hcounted.trans ?_)⟩
    · exact State.testThreshold_stays (e := { e with count := min (e.count + 1) 15 }) rfl hothers hstays
    · rw [← hresult]
      exact State.testThreshold_pass (e := { e with count := min (e.count + 1) 15 }) rfl hothers hstate hpasses
  case new =>
    have hinserted := State.takeReport_new (s := s') hsound howner hnew hkept
    have hothers : ∀ x ∈ kept ++ [], x.physical ≠ r.physical := by
      rw [List.append_nil]
      exact Kept.not_watched hkept hnew
    have hresult : State.dueResult { s' with watch := kept ++ [⟨r.physical, 1, .counting⟩] } r.physical =
        offerResult s l := State.dueResult_owner howner
    refine ⟨fun hstays => congrArg _ (hinserted.trans ?_), fun hpasses => congrArg _ (hinserted.trans ?_)⟩
    · exact State.testThreshold_stays (e := ⟨r.physical, 1, .counting⟩) rfl hothers fun h => hstays h.2
    · rw [← hresult]
      exact State.testThreshold_pass (e := ⟨r.physical, 1, .counting⟩) rfl hothers rfl hpasses
  case full =>
    obtain ⟨l, hl⟩ := Option.ne_none_iff_exists'.mp howner
    exact congrArg _ (State.takeReport_full (s := s') hl hnew hfull hcounting)

end Sys2Proof.Machine

/-! ## Offers in order: the STUCK release and the offers at a head removal, O15 -/

namespace Sys2Proof.Machine

variable {s : State}

/-! ### Entries offered in age order (R85, R88) -/

/-- The offers in age order with no owner assumed: an entry without an owner becomes DUE and takes no place (log 21). -/
def State.offerEach (s : State) (offered : List RetireRequest → WatchEntry → Bool) :
    List WatchEntry → List RetireRequest → List WatchEntry × List RetireRequest
  | [], queue => ([], queue)
  | e :: younger, queue =>
    if offered queue e then
      let o := State.dueResult { s with retq := queue } e.physical
      let r := s.offerEach offered younger o.2
      ({ e with state := o.1 } :: r.1, r.2)
    else
      let r := s.offerEach offered younger queue
      (e :: r.1, r.2)

section
variable {offered : List RetireRequest → WatchEntry → Bool} {queue : List RetireRequest}

theorem State.offerEach_offered {e : WatchEntry} (h : offered queue e = true) (younger : List WatchEntry) :
    s.offerEach offered (e :: younger) queue =
      ({ e with state := (State.dueResult { s with retq := queue } e.physical).1 } ::
          (s.offerEach offered younger (State.dueResult { s with retq := queue } e.physical).2).1,
        (s.offerEach offered younger (State.dueResult { s with retq := queue } e.physical).2).2) := if_pos h

theorem State.offerEach_skipped {e : WatchEntry} (h : offered queue e = false) (younger : List WatchEntry) :
    s.offerEach offered (e :: younger) queue =
      (e :: (s.offerEach offered younger queue).1, (s.offerEach offered younger queue).2) :=
  if_neg (Bool.eq_false_iff.mp h)

theorem offerInOrder_offered {e : WatchEntry} {l : Nat} (howner : s.owner e.physical = some l)
    (h : offered queue e = true) (younger : List WatchEntry) :
    offerInOrder s offered (e :: younger) queue =
      ({ e with state := (offerResult { s with retq := queue } l).1 } ::
          (offerInOrder s offered younger (offerResult { s with retq := queue } l).2).1,
        (offerInOrder s offered younger (offerResult { s with retq := queue } l).2).2) := by
  change (match s.owner e.physical, offered queue e with
    | some l, true =>
      let o := offerResult { s with retq := queue } l
      let r := offerInOrder s offered younger o.2
      ({ e with state := o.1 } :: r.1, r.2)
    | some _, false | none, _ =>
      let r := offerInOrder s offered younger queue
      (e :: r.1, r.2)) = _
  rw [howner, h]

theorem offerInOrder_skipped {e : WatchEntry} {l : Nat} (howner : s.owner e.physical = some l)
    (h : offered queue e = false) (younger : List WatchEntry) :
    offerInOrder s offered (e :: younger) queue =
      (e :: (offerInOrder s offered younger queue).1, (offerInOrder s offered younger queue).2) := by
  change (match s.owner e.physical, offered queue e with
    | some l, true =>
      let o := offerResult { s with retq := queue } l
      let r := offerInOrder s offered younger o.2
      ({ e with state := o.1 } :: r.1, r.2)
    | some _, false | none, _ =>
      let r := offerInOrder s offered younger queue
      (e :: r.1, r.2)) = _
  rw [howner, h]

/-- With an owner for every entry these are the offers of R84. -/
theorem State.offerEach_eq_offerInOrder {entries : List WatchEntry}
    (howner : ∀ e ∈ entries, s.owner e.physical ≠ none) :
    s.offerEach offered entries queue = offerInOrder s offered entries queue := by
  induction entries generalizing queue with
  | nil => rfl
  | cons e younger ih =>
    obtain ⟨he, hyounger⟩ := List.forall_mem_cons.mp howner
    obtain ⟨l, hl⟩ := Option.ne_none_iff_exists'.mp he
    cases hoffered : offered queue e with
    | true =>
      have hresult : State.dueResult { s with retq := queue } e.physical = offerResult { s with retq := queue } l :=
        State.dueResult_owner hl
      rw [State.offerEach_offered hoffered, hresult, ih hyounger, offerInOrder_offered hl hoffered]
    | false => rw [State.offerEach_skipped hoffered, ih hyounger, offerInOrder_skipped hl hoffered]

/-- With no entry to offer nothing changes. -/
theorem State.offerEach_none {entries : List WatchEntry} (h : ∀ e ∈ entries, offered queue e = false) :
    s.offerEach offered entries queue = (entries, queue) := by
  induction entries with
  | nil => rfl
  | cons e younger ih =>
    obtain ⟨he, hyounger⟩ := List.forall_mem_cons.mp h
    rw [State.offerEach_skipped he, ih hyounger]

/-- The younger entries are offered to the queue that the older ones leave. -/
theorem State.offerEach_append (older younger : List WatchEntry) :
    s.offerEach offered (older ++ younger) queue =
      ((s.offerEach offered older queue).1 ++ (s.offerEach offered younger (s.offerEach offered older queue).2).1,
        (s.offerEach offered younger (s.offerEach offered older queue).2).2) := by
  induction older generalizing queue with
  | nil => rfl
  | cons e older ih =>
    rw [List.cons_append]
    cases hoffered : offered queue e with
    | true => rw [State.offerEach_offered hoffered, State.offerEach_offered hoffered, ih, List.cons_append]
    | false => rw [State.offerEach_skipped hoffered, State.offerEach_skipped hoffered, ih, List.cons_append]

/-- The offers keep addresses, counts and ages. -/
theorem State.offerEach_keys (entries : List WatchEntry) :
    (s.offerEach offered entries queue).1.map (fun e => (e.physical, e.count)) =
      entries.map fun e => (e.physical, e.count) := by
  induction entries generalizing queue with
  | nil => rfl
  | cons e younger ih =>
    cases hoffered : offered queue e with
    | true => rw [State.offerEach_offered hoffered, List.map_cons, List.map_cons, ih]
    | false => rw [State.offerEach_skipped hoffered, List.map_cons, List.map_cons, ih]

/-- An entry that is not offered stays as it is. -/
theorem State.mem_offerEach {entries : List WatchEntry} {e : WatchEntry} (he : e ∈ entries)
    (h : ∀ queue, offered queue e = false) : e ∈ (s.offerEach offered entries queue).1 := by
  induction entries generalizing queue with
  | nil => exact absurd he List.not_mem_nil
  | cons d younger ih =>
    cases hoffered : offered queue d with
    | true =>
      rw [State.offerEach_offered hoffered]
      obtain rfl | he := List.mem_cons.mp he
      · exact absurd hoffered (by simp [h])
      · exact List.mem_cons_of_mem _ (ih he)
    | false =>
      rw [State.offerEach_skipped hoffered]
      obtain rfl | he := List.mem_cons.mp he
      · exact List.mem_cons_self
      · exact List.mem_cons_of_mem _ (ih he)

theorem State.dueResult_retq (s : State) (p : Nat) :
    ∃ added, (s.dueResult p).2 = s.retq ++ added ∧ ∀ r ∈ added, r.origin = .watch := by
  have hnothing : ∃ added, s.retq = s.retq ++ added ∧ ∀ r ∈ added, r.origin = RetireOrigin.watch :=
    ⟨[], (List.append_nil _).symm, nofun⟩
  unfold State.dueResult
  cases s.owner p with
  | none => exact hnothing
  | some l =>
    rw [Option.elim_some, offerResult]
    split_ifs
    · exact hnothing
    · exact hnothing
    · exact ⟨[⟨l, .watch⟩], rfl, by simp⟩
    · exact hnothing

/-- The queue only grows at its tail. -/
theorem State.offerEach_retq (entries : List WatchEntry) :
    ∃ added, (s.offerEach offered entries queue).2 = queue ++ added ∧ ∀ r ∈ added, r.origin = .watch := by
  induction entries generalizing queue with
  | nil => exact ⟨[], (List.append_nil _).symm, nofun⟩
  | cons e younger ih =>
    cases hoffered : offered queue e with
    | true =>
      rw [State.offerEach_offered hoffered]
      obtain ⟨first, hfirst, hwatch⟩ := State.dueResult_retq { s with retq := queue } e.physical
      obtain ⟨rest, hrest, hwatch'⟩ := ih (queue := (State.dueResult { s with retq := queue } e.physical).2)
      refine ⟨first ++ rest, ?_, List.forall_mem_append.mpr ⟨hwatch, hwatch'⟩⟩
      rw [hrest, hfirst, List.append_assoc]
    | false =>
      rw [State.offerEach_skipped hoffered]
      exact ih

end

/-! ### The release at a slot's notice (R24, R88) -/

/-- A STUCK entry as the notice leaves it, before its test. -/
def released (e : WatchEntry) : WatchEntry := if e.state = .stuck then { e with state := .counting } else e

theorem released_of_stuck {e : WatchEntry} (h : e.state = .stuck) : released e = { e with state := .counting } := if_pos h

theorem released_of_not_stuck {e : WatchEntry} (h : e.state ≠ .stuck) : released e = e := if_neg h

theorem map_released {entries : List WatchEntry} (h : ∀ e ∈ entries, e.state ≠ .stuck) : entries.map released = entries :=
  (List.map_congr_left fun e he => released_of_not_stuck (h e he)).trans (List.map_id' entries)

theorem released_physical (e : WatchEntry) : (released e).physical = e.physical := by
  unfold released
  split <;> rfl

theorem released_count (e : WatchEntry) : (released e).count = e.count := by
  unfold released
  split <;> rfl

theorem released_not_stuck (e : WatchEntry) : (released e).state ≠ .stuck := by
  unfold released
  split
  · simp
  · assumption

theorem State.dueResult_not_stuck (s : State) (p : Nat) : (s.dueResult p).1 ≠ .stuck := by
  unfold State.dueResult offerResult
  cases s.owner p with
  | none => simp
  | some l =>
    rw [Option.elim_some]
    split_ifs <;> simp

/-- Whether the release offers an entry: a STUCK one that passes the threshold test. -/
def State.releaseOffers (s : State) (_ : List RetireRequest) (e : WatchEntry) : Bool :=
  e.state = .stuck ∧ s.config.ceThreshold ≠ 0 ∧ s.config.ceThreshold ≤ e.count

/-- The tests in age order: the older entries have been dealt with, and the younger ones released. -/
theorem State.foldl_testThreshold (s : State) (younger older : List WatchEntry) (queue : List RetireRequest)
    (hnodup : ((older ++ younger).map (·.physical)).Nodup) :
    ((younger.filter fun e => e.state = .stuck).map (·.physical)).foldl State.testThreshold
        { s with watch := older ++ younger.map released, retq := queue } =
      { s with
        watch := older ++ (s.offerEach s.releaseOffers younger queue).1.map released,
        retq := (s.offerEach s.releaseOffers younger queue).2 } := by
  induction younger generalizing older queue with
  | nil => rfl
  | cons e younger ih =>
    have hothers : ∀ x ∈ older ++ younger.map released, x.physical ≠ e.physical := by
      obtain ⟨holder, hyounger⟩ := List.forall_mem_append.mp (others_of_nodup hnodup)
      refine List.forall_mem_append.mpr ⟨holder, List.forall_mem_map.mpr fun x hx => ?_⟩
      rw [released_physical]
      exact hyounger x hx
    have hnext (e' : WatchEntry) (hp : e'.physical = e.physical) :
        ((older ++ [e'] ++ younger).map (·.physical)).Nodup := by
      simpa [hp] using hnodup
    have hrest (e' : WatchEntry) (hp : e'.physical = e.physical) (q : List RetireRequest) :=
      ih (older ++ [e']) q (hnext e' hp)
    simp only [List.append_assoc, List.singleton_append] at hrest
    have hoffered := hrest { e with state := (State.dueResult { s with retq := queue } e.physical).1 } rfl
      (State.dueResult { s with retq := queue } e.physical).2
    by_cases hstuck : e.state = .stuck
    · have hskips (hfails : ¬ (s.config.ceThreshold ≠ 0 ∧ s.config.ceThreshold ≤ e.count)) :
          s.releaseOffers queue e = false := by
        simpa [State.releaseOffers, hstuck] using hfails
      rw [List.filter_cons_of_pos (by simpa using hstuck), List.map_cons (f := fun e : WatchEntry => e.physical),
        List.foldl_cons, List.map_cons, released_of_stuck hstuck]
      by_cases hpasses : s.config.ceThreshold ≠ 0 ∧ s.config.ceThreshold ≤ e.count
      · have htest := State.testThreshold_pass (e := { e with state := .counting })
          (s := { s with watch := older ++ { e with state := .counting } :: younger.map released, retq := queue })
          rfl hothers rfl hpasses
        rw [State.offerEach_offered (by simp [State.releaseOffers, hstuck, hpasses]), List.map_cons,
          released_of_not_stuck (State.dueResult_not_stuck _ _)]
        exact (congrArg (List.foldl State.testThreshold · _) htest).trans hoffered
      · have htest := State.testThreshold_stays (e := { e with state := .counting })
          (s := { s with watch := older ++ { e with state := .counting } :: younger.map released, retq := queue })
          rfl hothers fun h => hpasses h.2
        rw [State.offerEach_skipped (hskips hpasses), List.map_cons, released_of_stuck hstuck]
        exact (congrArg (List.foldl State.testThreshold · _) htest).trans (hrest { e with state := .counting } rfl queue)
    · rw [List.filter_cons_of_neg (by simpa using hstuck), List.map_cons, released_of_not_stuck hstuck,
        State.offerEach_skipped (by simp [State.releaseOffers, hstuck]), List.map_cons, released_of_not_stuck hstuck]
      exact hrest e rfl queue

theorem State.releaseStuck_eq (hsound : s.WatchSound) :
    s.releaseStuck =
      { s with
        watch := (s.offerEach s.releaseOffers s.watch s.retq).1.map released,
        retq := (s.offerEach s.releaseOffers s.watch s.retq).2 } := by
  obtain ⟨-, hnodup, -⟩ := hsound
  exact s.foldl_testThreshold s.watch [] s.retq hnodup

/-! ### The offers at the removal of the queue's head (R85) -/

/-- Whether an entry is offered at a head removal: a DUE one while there is space. -/
def dueOffers (queue : List RetireRequest) (e : WatchEntry) : Bool := e.state = .due ∧ queue.length < 4

/-- The offers in age order: the older entries have been dealt with. -/
theorem State.foldl_offerDue (s : State) (younger older : List WatchEntry) (queue : List RetireRequest)
    (hnodup : ((older ++ younger).map (·.physical)).Nodup) :
    (younger.filter fun e => e.state = .due).foldl
        (fun t e => if t.retq.length < Config.retirePlaces then t.offerDue e.physical else t)
        { s with watch := older ++ younger, retq := queue } =
      { s with
        watch := older ++ (s.offerEach dueOffers younger queue).1, retq := (s.offerEach dueOffers younger queue).2 } := by
  induction younger generalizing older queue with
  | nil => rfl
  | cons e younger ih =>
    have hnext (e' : WatchEntry) (hp : e'.physical = e.physical) :
        ((older ++ [e'] ++ younger).map (·.physical)).Nodup := by
      simpa [hp] using hnodup
    have hrest (e' : WatchEntry) (hp : e'.physical = e.physical) (q : List RetireRequest) :=
      ih (older ++ [e']) q (hnext e' hp)
    simp only [List.append_assoc, List.singleton_append] at hrest
    have hoffered := hrest { e with state := (State.dueResult { s with retq := queue } e.physical).1 } rfl
      (State.dueResult { s with retq := queue } e.physical).2
    by_cases hdue : e.state = .due
    · rw [List.filter_cons_of_pos (by simpa using hdue), List.foldl_cons]
      by_cases hspace : queue.length < 4
      · have hoffer := State.offerDue_split (e := e) (s := { s with watch := older ++ e :: younger, retq := queue })
          rfl (others_of_nodup hnodup) hdue
        rw [State.offerEach_offered (by simp [dueOffers, hdue, hspace])]
        exact (congrArg (List.foldl _ · _) ((if_pos hspace).trans hoffer)).trans hoffered
      · rw [State.offerEach_skipped (by simp [dueOffers, hspace])]
        exact (congrArg (List.foldl _ · _) (if_neg hspace)).trans (hrest e rfl queue)
    · rw [List.filter_cons_of_neg (by simpa using hdue), State.offerEach_skipped (by simp [dueOffers, hdue])]
      exact hrest e rfl queue

theorem State.offerDueEntries_eq (hsound : s.WatchSound) :
    s.offerDueEntries =
      { s with
        watch := (s.offerEach dueOffers s.watch s.retq).1, retq := (s.offerEach dueOffers s.watch s.retq).2 } := by
  obtain ⟨-, hnodup, -⟩ := hsound
  exact s.foldl_offerDue s.watch [] s.retq hnodup

/-! ### The two statements -/

theorem map_released_keys (entries : List WatchEntry) :
    (entries.map released).map (fun e => (e.physical, e.count)) = entries.map fun e => (e.physical, e.count) := by
  rw [List.map_map]
  exact List.map_congr_left fun e _ => Prod.ext (released_physical e) (released_count e)

theorem State.releaseOffers_of_not_stuck {e : WatchEntry} (h : e.state ≠ .stuck) (queue : List RetireRequest) :
    s.releaseOffers queue e = false :=
  decide_eq_false fun hoffered => h hoffered.1

/-- The release (R88): its offers in age order, then every STUCK entry left is COUNTING. -/
theorem releaseStuck_spec (hsound : s.WatchSound) :
    s.releaseStuck = { s with watch := s.releaseStuck.watch, retq := s.releaseStuck.retq } ∧
    ((∀ e ∈ s.watch, e.state ≠ .stuck) → s.releaseStuck = s) ∧
    ((s.config.ceThreshold = 0 ∨ ∀ e ∈ s.watch, e.state = .stuck → e.count < s.config.ceThreshold) →
      s.releaseStuck = { s with watch := s.watch.map released }) ∧
    (∀ (a b : List WatchEntry) (e : WatchEntry) (l : Nat), s.watch = a ++ e :: b → e.state = .stuck →
      (∀ x ∈ a ++ b, x.state ≠ .stuck) → s.owner e.physical = some l →
      s.config.ceThreshold ≠ 0 → s.config.ceThreshold ≤ e.count →
      s.releaseStuck =
        { s with watch := a ++ { e with state := (offerResult s l).1 } :: b, retq := (offerResult s l).2 }) ∧
    (s.releaseStuck.watch.map (fun e => (e.physical, e.count)) = s.watch.map (fun e => (e.physical, e.count)) ∧
      (∀ e ∈ s.releaseStuck.watch, e.state ≠ .stuck) ∧
      (∀ e ∈ s.watch, e.state ≠ .stuck → e ∈ s.releaseStuck.watch) ∧
      ∃ added, s.releaseStuck.retq = s.retq ++ added ∧ ∀ r ∈ added, r.origin = .watch) ∧
    ((∀ e ∈ s.watch, s.owner e.physical ≠ none) →
      s.releaseStuck =
        { s with
          watch := (offerInOrder s s.releaseOffers s.watch s.retq).1.map released,
          retq := (offerInOrder s s.releaseOffers s.watch s.retq).2 }) := by
  have hnothing (h : ∀ e ∈ s.watch, s.releaseOffers s.retq e = false) :
      s.releaseStuck = { s with watch := s.watch.map released } := by
    rw [State.releaseStuck_eq hsound, State.offerEach_none h]
  refine ⟨?frame, fun hnone => ?noStuck, fun hbelow => hnothing fun e he => ?below,
    fun a b e l hwatch hstuck hothers howner hthreshold hcount => ?one,
    ⟨?keys, ?noneLeft, fun e he hstuck => ?others, ?tail⟩, fun howner => ?inOrder⟩
  case frame => rw [State.releaseStuck_eq hsound]
  case noStuck =>
    rw [hnothing fun e he => State.releaseOffers_of_not_stuck (hnone e he) _, map_released hnone]
  case below =>
    refine decide_eq_false fun ⟨hstuck, hthreshold, hcount⟩ => ?_
    obtain hzero | hbelow := hbelow
    · exact hthreshold hzero
    · exact Nat.not_lt.mpr hcount (hbelow e he hstuck)
  case one =>
    obtain ⟨ha, hb⟩ := List.forall_mem_append.mp hothers
    have hskip {x : WatchEntry} (hx : x.state ≠ .stuck) (queue : List RetireRequest) :=
      State.releaseOffers_of_not_stuck (s := s) hx queue
    have hresult : State.dueResult { s with retq := s.retq } e.physical = offerResult s l := State.dueResult_owner howner
    have hoffered : s.releaseOffers s.retq e = true := decide_eq_true ⟨hstuck, hthreshold, hcount⟩
    have hkept : (offerResult s l).1 ≠ .stuck := hresult ▸ State.dueResult_not_stuck _ _
    rw [State.releaseStuck_eq hsound, hwatch, State.offerEach_append, State.offerEach_none fun x hx => hskip (ha x hx) _,
      State.offerEach_offered hoffered, hresult, State.offerEach_none fun x hx => hskip (hb x hx) _, List.map_append,
      List.map_cons, map_released ha, map_released hb, released_of_not_stuck hkept]
  case keys => rw [State.releaseStuck_eq hsound, map_released_keys, State.offerEach_keys]
  case noneLeft =>
    rw [State.releaseStuck_eq hsound]
    exact List.forall_mem_map.mpr fun e _ => released_not_stuck e
  case others =>
    rw [State.releaseStuck_eq hsound]
    exact List.mem_map.mpr
      ⟨e, State.mem_offerEach he (State.releaseOffers_of_not_stuck hstuck), released_of_not_stuck hstuck⟩
  case tail =>
    rw [State.releaseStuck_eq hsound]
    exact State.offerEach_retq s.watch
  case inOrder => rw [State.releaseStuck_eq hsound, State.offerEach_eq_offerInOrder howner]

theorem dueOffers_full {queue : List RetireRequest} (hfull : 4 ≤ queue.length) (e : WatchEntry) :
    dueOffers queue e = false :=
  decide_eq_false fun hoffered => Nat.not_lt.mpr hfull hoffered.2

theorem dueOffers_of_not_due {e : WatchEntry} (h : e.state ≠ .due) (queue : List RetireRequest) :
    dueOffers queue e = false :=
  decide_eq_false fun hoffered => h hoffered.1

/-- The offers at a head removal (R85). -/
theorem offerDueEntries_spec (hsound : s.WatchSound) :
    ((∀ e ∈ s.watch, e.state ≠ .due) → s.offerDueEntries = s) ∧
    (4 ≤ s.retq.length → s.offerDueEntries = s) ∧
    (∀ (a b : List WatchEntry) (e : WatchEntry) (l : Nat), s.watch = a ++ e :: b → e.state = .due →
      (∀ x ∈ a, x.state ≠ .due) → s.owner e.physical = some l → s.migrating l = false →
      s.queuedForRetirement l = false → s.retq.length = 3 →
      s.offerDueEntries =
        { s with watch := a ++ { e with state := .queued } :: b, retq := s.retq ++ [⟨l, .watch⟩] }) ∧
    ((∀ e ∈ s.watch, s.owner e.physical ≠ none) →
      s.offerDueEntries =
        { s with
          watch := (offerInOrder s dueOffers s.watch s.retq).1,
          retq := (offerInOrder s dueOffers s.watch s.retq).2 }) := by
  have hnothing (h : ∀ e ∈ s.watch, dueOffers s.retq e = false) : s.offerDueEntries = s := by
    rw [State.offerDueEntries_eq hsound, State.offerEach_none h]
  refine ⟨fun hnone => hnothing fun e he => dueOffers_of_not_due (hnone e he) _,
    fun hfull => hnothing fun e _ => dueOffers_full hfull e,
    fun a b e l hwatch hdue ha howner hmigrating hqueued hlength => ?one, fun howner => ?inOrder⟩
  case one =>
    have hspace : s.retq.length < 4 := by omega
    have hoffered : dueOffers s.retq e = true := decide_eq_true ⟨hdue, hspace⟩
    have hresult : State.dueResult { s with retq := s.retq } e.physical = (.queued, s.retq ++ [⟨l, .watch⟩]) := by
      rw [State.dueResult_owner (s := s) howner, offerResult, hmigrating, hqueued, if_neg Bool.false_ne_true,
        if_neg Bool.false_ne_true, if_pos hspace]
    have hfull : 4 ≤ (s.retq ++ [(⟨l, .watch⟩ : RetireRequest)]).length := by simp [hlength]
    rw [State.offerDueEntries_eq hsound, hwatch, State.offerEach_append,
      State.offerEach_none fun x hx => dueOffers_of_not_due (ha x hx) _, State.offerEach_offered hoffered, hresult,
      State.offerEach_none fun x _ => dueOffers_full hfull x]
  case inOrder => rw [State.offerDueEntries_eq hsound, State.offerEach_eq_offerInOrder howner]

/-- Settles O15: both are offers in age order, each to the queue that the older entries' offers left. -/
theorem releasesAndHeadRemovalsOfferEntries : Obligations.ReleasesAndHeadRemovalsOfferEntries :=
  ⟨fun _ hsound => releaseStuck_spec hsound, fun _ hsound => offerDueEntries_spec hsound⟩

end Sys2Proof.Machine

/-! ## The take of an offer: O27 -/

namespace Sys2Proof.Machine

variable {s : State} {o : Offer}

/-! ### The merge test and the outcomes (R122, R123) -/

theorem Offer.mergesInto_iff {h : Nat} {newest : Offer} :
    o.mergesInto h newest = true ↔
      newest.kindCode = o.kindCode ∧ newest.addressKey h = o.addressKey h ∧ newest.mergeBit = o.mergeBit := by
  simp only [Offer.mergesInto, Bool.and_eq_true, decide_eq_true_eq, and_assoc]
  rw [eq_comm, eq_comm (a := o.addressKey h), eq_comm (a := o.mergeBit)]

/-- The newest record takes the offer up. -/
def State.merges (s : State) (o : Offer) : Prop :=
  ∃ r ∈ s.log.records.getLast?,
    r.offer.kindCode = o.kindCode ∧ r.offer.addressKey s.H = o.addressKey s.H ∧ r.offer.mergeBit = o.mergeBit

theorem State.merges_iff : s.merges o ↔ s.log.records.getLast?.any (fun r => o.mergesInto s.H r.offer) = true := by
  simp only [State.merges, Option.any_eq_true, Offer.mergesInto_iff, Option.mem_def]

theorem State.offerOutcome_merged (h : s.merges o) : s.offerOutcome o = .merged := if_pos (State.merges_iff.mp h)

theorem State.offerOutcome_appended (h : ¬ s.merges o) (hspace : s.log.records.length < 16) :
    s.offerOutcome o = .appended := by
  rw [State.merges_iff] at h
  exact (if_neg h).trans (if_pos hspace)

/-- In a full log a SEVERE offer displaces a NOTICE, if there is one, and every other offer is dropped (R125, R126). -/
theorem State.offerOutcome_full (h : ¬ s.merges o) (hfull : 16 ≤ s.log.records.length) :
    s.offerOutcome o =
      if o.severe && s.log.records.any (fun r => !r.offer.severe) then .displaced else .dropped := by
  rw [State.merges_iff] at h
  exact (if_neg h).trans (if_neg (Nat.not_lt.mpr hfull))

theorem State.logAfter_merged (h : s.offerOutcome o = .merged) :
    s.logAfter o =
      { s.log with
        records := bumpNewest s.log.records, flags := setFlag? s.log.flags o.flag, firstUE := s.latchAfter o } := by
  unfold State.logAfter
  rw [h]

theorem State.logAfter_appended (h : s.offerOutcome o = .appended) :
    s.logAfter o =
      { s.log with
        records := s.log.records ++ [s.newRecord o], nextSeq := s.log.nextSeq + 1,
        flags := setFlag? s.log.flags o.flag, firstUE := s.latchAfter o } := by
  unfold State.logAfter
  rw [h]

theorem State.logAfter_displaced (h : s.offerOutcome o = .displaced) :
    s.logAfter o =
      { records := dropOldestNotice s.log.records ++ [s.newRecord o], nextSeq := s.log.nextSeq + 1,
        dropped := min (s.log.dropped + 1) 255, flags := setFlag (setFlag? s.log.flags o.flag) flagDropped,
        firstUE := s.latchAfter o } := by
  unfold State.logAfter
  rw [h]
  rfl

theorem State.logAfter_dropped (h : s.offerOutcome o = .dropped) :
    s.logAfter o =
      { s.log with
        dropped := min (s.log.dropped + 1) 255, flags := setFlag (setFlag? s.log.flags o.flag) flagDropped,
        firstUE := s.latchAfter o } := by
  unfold State.logAfter
  rw [h]
  rfl

/-! ### The summary and the latch (R128, R129) -/

theorem State.logAfter_firstUE (s : State) (o : Offer) : (s.logAfter o).firstUE = s.latchAfter o := by
  cases h : s.offerOutcome o with
  | merged => rw [State.logAfter_merged h]
  | appended => rw [State.logAfter_appended h]
  | displaced => rw [State.logAfter_displaced h]
  | dropped => rw [State.logAfter_dropped h]

theorem State.latchAfter_set {u : FirstUE} (h : s.log.firstUE = some u) : s.latchAfter o = some u := by
  simp only [State.latchAfter, h]

theorem State.latchAfter_ue (h : s.log.firstUE = none) (f : Finder) (p : Nat) (syn : BitVec 8) :
    s.latchAfter (.ue f p syn) = some ⟨f, p, s.offerLogical (.ue f p syn)⟩ := by
  simp only [State.latchAfter, h]

theorem State.latchAfter_other (h : s.log.firstUE = none) (ho : ∀ f p syn, o ≠ .ue f p syn) : s.latchAfter o = none := by
  cases o with
  | ue f p syn => exact absurd rfl (ho f p syn)
  | _ => simp only [State.latchAfter, h]

/-- The flags after an offer: those before, the offer's own, and DROPPED when it finds the log full. -/
theorem State.logAfter_flags (s : State) (o : Offer) {j : Nat} (hj : j < 7) :
    (s.logAfter o).flags.getLsbD j = true ↔
      s.log.flags.getLsbD j = true ∨ o.flag = some j ∨ j = 6 ∧ ¬ s.merges o ∧ 16 ≤ s.log.records.length := by
  have hown : (setFlag? s.log.flags o.flag).getLsbD j = true ↔ s.log.flags.getLsbD j = true ∨ o.flag = some j := by
    rw [getLsbD_setFlag? _ _ hj, Bool.or_eq_true, decide_eq_true_eq]
  have hdropped : (setFlag (setFlag? s.log.flags o.flag) flagDropped).getLsbD j = true ↔
      (s.log.flags.getLsbD j = true ∨ o.flag = some j) ∨ j = 6 := by
    rw [getLsbD_setFlag _ hj, Bool.or_eq_true, decide_eq_true_eq, hown]
    rfl
  by_cases hmerges : s.merges o
  · rw [State.logAfter_merged (State.offerOutcome_merged hmerges), hown]
    simp [hmerges]
  · obtain hspace | hfull := Nat.lt_or_ge s.log.records.length 16
    · rw [State.logAfter_appended (State.offerOutcome_appended hmerges hspace), hown]
      simp [Nat.not_le.mpr hspace]
    · have hflags : (s.logAfter o).flags = setFlag (setFlag? s.log.flags o.flag) flagDropped := by
        have houtcome := State.offerOutcome_full hmerges hfull
        split at houtcome
        · rw [State.logAfter_displaced houtcome]
        · rw [State.logAfter_dropped houtcome]
      rw [hflags, hdropped]
      simp [hmerges, hfull, or_assoc]

/-! ### The row -/

/-- The oldest outstanding offer of a block is the one taken. -/
theorem exec_recordOffer {src : OfferSource} {before after : List Offer} (hhigh : s.pins.resetLow = false)
    (hoffers : s.offers = before ++ o :: after) (hsrc : o.source = src) (hbefore : ∀ x ∈ before, x.source ≠ src) :
    exec (.recordOffer src) s = .next { s with offers := before ++ after, log := s.logAfter o } := by
  have hfind : s.offers.find? (·.source = src) = some o := by
    rw [hoffers, List.find?_append, List.find?_eq_none.mpr (by simpa using hbefore)]
    simp [hsrc]
  have herase : s.offers.eraseP (·.source = src) = before ++ after := by
    rw [hoffers, List.eraseP_append_right _ (by simpa using hbefore), List.eraseP_cons_of_pos (by simp [hsrc])]
  simp only [exec, execRecordOffer, hfind, herase]
  exact congrArg _ (if_neg (by simp [hhigh]))

theorem State.logAfter_spec {logical : Option Nat} (hlogical : s.offerLogical o = logical) :
    (∀ rs r, s.log.records = rs ++ [r] →
      r.offer.kindCode = o.kindCode ∧ r.offer.addressKey s.H = o.addressKey s.H ∧ r.offer.mergeBit = o.mergeBit →
      (s.logAfter o).records = rs ++ [{ r with repeats := min (r.repeats + 1) 255 }] ∧
      (s.logAfter o).nextSeq = s.log.nextSeq ∧ (s.logAfter o).dropped = s.log.dropped) ∧
    (¬ s.merges o → s.log.records.length < 16 →
      (s.logAfter o).records = s.log.records ++ [⟨s.log.nextSeq, s.scrub.microseconds, 1, o, logical⟩] ∧
      (s.logAfter o).nextSeq = s.log.nextSeq + 1 ∧ (s.logAfter o).dropped = s.log.dropped) ∧
    (∀ a r b, ¬ s.merges o → 16 ≤ s.log.records.length → o.severe = true → s.log.records = a ++ r :: b →
      (∀ x ∈ a, x.offer.severe = true) → r.offer.severe = false →
      (s.logAfter o).records = a ++ b ++ [⟨s.log.nextSeq, s.scrub.microseconds, 1, o, logical⟩] ∧
      (s.logAfter o).nextSeq = s.log.nextSeq + 1 ∧ (s.logAfter o).dropped = min (s.log.dropped + 1) 255) ∧
    (¬ s.merges o → 16 ≤ s.log.records.length → o.severe = false ∨ (∀ r ∈ s.log.records, r.offer.severe = true) →
      (s.logAfter o).records = s.log.records ∧ (s.logAfter o).nextSeq = s.log.nextSeq ∧
      (s.logAfter o).dropped = min (s.log.dropped + 1) 255) ∧
    (∀ j < 7, (s.logAfter o).flags.getLsbD j = true ↔
      s.log.flags.getLsbD j = true ∨ o.flag = some j ∨ j = 6 ∧ ¬ s.merges o ∧ 16 ≤ s.log.records.length) ∧
    (∀ u, s.log.firstUE = some u → (s.logAfter o).firstUE = some u) ∧
    (∀ f p syn, s.log.firstUE = none → o = .ue f p syn → (s.logAfter o).firstUE = some ⟨f, p, logical⟩) ∧
    (s.log.firstUE = none → (∀ f p syn, o ≠ .ue f p syn) → (s.logAfter o).firstUE = none) := by
  subst hlogical
  refine ⟨fun rs r hrecords hmatched => ?merged, fun hmerges hspace => ?appended,
    fun a r b hmerges hfull hsevere hrecords ha hr => ?displaced, fun hmerges hfull hnone => ?dropped,
    fun j hj => s.logAfter_flags o hj, fun u hu => ?latchSet, fun f p syn hclear ho => ?latchUE,
    fun hclear ho => ?latchOther⟩
  case merged =>
    have hmerges : s.merges o := ⟨r, by rw [hrecords, List.getLast?_concat]; rfl, hmatched⟩
    rw [State.logAfter_merged (State.offerOutcome_merged hmerges), hrecords, bumpNewest_append]
    exact ⟨rfl, rfl, rfl⟩
  case appended =>
    rw [State.logAfter_appended (State.offerOutcome_appended hmerges hspace)]
    exact ⟨rfl, rfl, rfl⟩
  case displaced =>
    have hany : s.log.records.any (fun r => !r.offer.severe) = true :=
      List.any_eq_true.mpr ⟨r, by rw [hrecords]; simp, by rw [hr]; rfl⟩
    have houtcome := State.offerOutcome_full hmerges hfull
    rw [hsevere, hany] at houtcome
    rw [State.logAfter_displaced houtcome, hrecords, dropOldestNotice_append ha hr]
    exact ⟨rfl, rfl, rfl⟩
  case dropped =>
    have hnot : (o.severe && s.log.records.any fun r => !r.offer.severe) = false := by
      obtain hnotice | hall := hnone
      · rw [hnotice, Bool.false_and]
      · rw [List.any_eq_false.mpr fun r hr => by simp [hall r hr], Bool.and_false]
    have houtcome := State.offerOutcome_full hmerges hfull
    rw [hnot] at houtcome
    rw [State.logAfter_dropped houtcome]
    exact ⟨rfl, rfl, rfl⟩
  case latchSet => rw [State.logAfter_firstUE, State.latchAfter_set hu]
  case latchUE =>
    subst ho
    rw [State.logAfter_firstUE, State.latchAfter_ue hclear]
  case latchOther => rw [State.logAfter_firstUE, State.latchAfter_other hclear ho]

/-- Settles O27: the tables kind by kind, and the log after the oldest outstanding offer by its outcome. -/
theorem offerMergesAppendsDisplacesOrDrops : Obligations.OfferMergesAppendsDisplacesOrDrops := by
  constructor
  · intro h p b l x f syn k w why a no tag
    cases f <;> exact ⟨rfl, rfl, rfl, rfl, rfl, rfl, rfl, rfl⟩
  · intro s src before after o hhigh hoffers hsrc hbefore
    refine ⟨s.logAfter o, exec_recordOffer hhigh hoffers hsrc hbefore, State.logAfter_spec ?_⟩
    cases o with
    | ce f => cases f <;> rfl
    | ue f => cases f <;> rfl
    | _ => rfl

end Sys2Proof.Machine
